-- ==== Sys2Proof/Word.lean ====
section
/-! DEFINITION. The two word types of the КР580ВМ80 (00_scope.md R3, R5): the 8-bit byte of the data bus, the
registers and the memory cells, and the 16-bit word of the addresses, PC, SP and the register pairs. -/

namespace Sys2Proof

/-- An 8-bit value: a register, a memory cell, an immediate, a port number (00_scope.md R3). -/
abbrev Byte := BitVec 8

/-- A 16-bit value: an address, PC, SP, a register pair (00_scope.md R3). -/
abbrev Word := BitVec 16

end Sys2Proof
end

