-- ==== Sys2Proof/Config.lean ====
section
/-! DEFINITION. What the spec leaves to the environment or the platform (00_scope.md R3, 92_eei_decisions.md
"Named parameters"): the parameters as plain data, with the spec's defaults, and the two free values, which are
constants without a body. -/

namespace Sys2Proof

/-- The ten kinds of machine cycle (20_memory.md R60). -/
inductive CycleKind where
  | instructionFetch
  | memRead
  | memWrite
  | stackRead
  | stackWrite
  | inputRead
  | outputWrite
  | interruptAck
  | haltAck
  | interruptAckInHalt
  deriving DecidableEq, Repr

/-- UNUSED_OPCODE_POLICY (30_encoding.md R86, 92 D2): what the 12 unused codes do. -/
inductive UnusedPolicy where
  /-- The spec's default: the run ends with UnusedOpcode(B1). -/
  | refuse
  /-- The Intel 8080's behaviour: NOP, JMP, RET or CALL. -/
  | likeIntel8080
  deriving DecidableEq, Repr

/-- AND_AC_RULE (42_logical.md R171, 92 D5): AC after ANA and ANI. -/
inductive AndAcRule where
  /-- The spec's default, as the source's cards say: AC becomes 0. -/
  | zero
  /-- The Intel 8080's behaviour: AC becomes bit 3 of A or bit 3 of the operand. -/
  | orBit3
  deriving DecidableEq, Repr

/-- JCC_NOT_TAKEN_CLOCKS (70_reset_and_hazards.md R312, 92 D19): what a conditional jump that is not taken costs. -/
inductive JccNotTaken where
  /-- The spec's default, row 6 of the cards: 3 cycles, 10 clocks. -/
  | clocks10
  /-- Row 7 of the cards: 1 cycle, 5 clocks. -/
  | clocks5
  deriving DecidableEq, Repr

/-- What stands behind an address (MEM_MAP, 20_memory.md R46, 92 D10). -/
inductive MemKind where
  | ram
  | rom
  | absent
  deriving DecidableEq, Repr

/-- One region of MEM_MAP: `size` addresses from `base` on. -/
structure Region where
  base : Nat
  size : Nat
  kind : MemKind
  deriving DecidableEq, Repr

/-- The parameters a model takes as arguments (92_eei_decisions.md). They are fixed for the machine: no step
writes them (log 3). -/
structure Params where
  unusedOpcodes : UnusedPolicy
  andAc : AndAcRule
  jccNotTaken : JccNotTaken
  /-- The regions that are not plain RAM; the first region that holds an address decides, and an address in no
  region is RAM (log 6). -/
  memMap : List Region
  deriving DecidableEq, Repr

/-- The defaults the spec gives (00_scope.md R3, 92_eei_decisions.md). -/
def Params.default : Params :=
  { unusedOpcodes := .refuse, andAc := .zero, jccNotTaken := .clocks10, memMap := [] }

/-- One answer of IO_READ that the environment has fixed: the `n`-th IN, when it asks `port`, gets `value`. -/
structure IoAnswer where
  port : Byte
  n : Nat
  value : Byte
  deriving DecidableEq, Repr

/-- What the environment drives onto the processor's two request lines at one step: the reset line, and the INT
line with the number n of the RST the device supplies (60_exceptions.md R272, R275; 70 R300; log 8, log 9). -/
structure Sample where
  reset : Bool
  int : Option (BitVec 3)
  deriving DecidableEq, Repr

/-- No reset and no interrupt request. -/
def Sample.quiet : Sample := { reset := false, int := none }

namespace Config

/-- FREE VALUE (log 7). IO_READ(port, n), the byte the environment returns to the n-th IN
(44_stack_io_control.md R250: "any value"). -/
opaque ioRead : Byte → Nat → Byte

/-- FREE VALUE (log 6). What a read of an absent cell returns (93 U16: "any value"): by the number of
instructions run before, the kind of cycle that reads, and the address, so that every read has a value of its own. -/
opaque absentByte : Nat → CycleKind → Word → Byte

/-- DESIGN CHOICE (log 2). What a memory cell that nothing has written reads as; the spec says any value
(MEM_INIT, 93 U5). -/
def unlistedByte : Byte := 0

/-- DESIGN CHOICE (log 1). The value at reset of A, B, C, D, E, H and L; the spec says any value (REG_INIT). -/
def resetReg : Byte := 0

/-- DESIGN CHOICE (log 1). The value of SP at reset; the spec says any value (REG_INIT). -/
def resetSp : Word := 0

/-- DESIGN CHOICE (log 1). The value at reset of each flag; the spec says any value (REG_INIT). -/
def resetFlag : Bool := false

end Config

end Sys2Proof
end

