-- ==== Sys2Proof/Machine/State.lean ====
section
/-! DEFINITION. The machine's state (10_state.md), its memory as a canonical list of cells, the reasons a step can
stop, and the state after reset (10_state.md R36, 70_reset_and_hazards.md R300). -/

namespace Sys2Proof.Machine

/-- The five flags (10_state.md R19). -/
structure Flags where
  z : Bool
  cy : Bool
  s : Bool
  p : Bool
  ac : Bool
  deriving DecidableEq, Repr

/-- The accumulator and the six general registers (10_state.md R10). -/
structure Regs where
  a : Byte
  b : Byte
  c : Byte
  d : Byte
  e : Byte
  h : Byte
  l : Byte
  deriving DecidableEq, Repr

/-- The 65536 cells (10_state.md R31) as a list of (address, byte) pairs: addresses strictly rising, and no entry
equal to what an unlisted address reads as (`Memory.wf`). -/
abbrev Memory := List Host.Cell

/-- Every entry lies at an address of the space, from `lo` on and strictly rising, and differs from what an
unlisted cell reads as. -/
def Memory.risingFrom : Nat → Memory → Bool
  | _, [] => true
  | lo, (k, w) :: rest =>
    decide (lo ≤ k) && decide (k < 65536) && decide (w ≠ Config.unlistedByte) && Memory.risingFrom (k + 1) rest

/-- The memory is in its canonical form. -/
def Memory.wf (m : Memory) : Bool := Memory.risingFrom 0 m

/-- The state of the machine: everything the spec gives it (10_state.md), the environment's part (00_scope.md R3,
R4) and the counters. -/
structure State where
  /-- A, B, C, D, E, H, L (10_state.md R10). -/
  regs : Regs
  /-- Z, CY, S, P, AC (10_state.md R19). -/
  flags : Flags
  /-- The stack pointer (10_state.md R18). -/
  sp : Word
  /-- The program counter (10_state.md R15). -/
  pc : Word
  /-- The interrupt-enable flip-flop (10_state.md R27). -/
  inte : Bool
  /-- Set by EI until the instruction after it has completed (10_state.md R29). -/
  eiPending : Bool
  /-- Set by HLT (10_state.md R29). -/
  halted : Bool
  /-- Memory (10_state.md R31). -/
  mem : Memory
  /-- in_count, the IN instructions executed so far (10_state.md R29). -/
  inCount : Nat
  /-- io_out, the output trace, oldest first (10_state.md R29). -/
  ioOut : List (Byte × Byte)
  /-- The named parameters (92_eei_decisions.md); no step writes them. -/
  params : Params
  /-- The samples of the reset and INT lines still to come, the next step's first; when none is left both lines are
  quiet (60_exceptions.md R273, log 8). -/
  lines : List Sample
  /-- The answers of IO_READ the environment has fixed; every other answer is a free value (log 7). -/
  ioFixed : List IoAnswer
  /-- The model's own: instructions run so far, the index of an absent cell's free value (log 6). -/
  instrCount : Nat
  /-- Machine cycles so far (70_reset_and_hazards.md R310, R313); nothing reads it. -/
  cycles : Nat
  /-- Clock periods so far (70_reset_and_hazards.md R310); nothing reads it. -/
  clocks : Nat
  deriving DecidableEq, Repr

/-- Why a step faults: never. The hardware raises no synchronous exception of any kind (60_exceptions.md R270) and
the spec never uses a fault (93_implementation_defined.md, "so `fault` is never used"). No meaning raises one, which
is safe: there is nothing a claim could rest on. -/
inductive Fault where
  deriving DecidableEq, Repr

/-- Why a step is refused. -/
inductive Refusal where
  /-- Raised by exec's arm of an instruction that has no meaning yet; no arm raises it. Safe: nothing can be proved
  of a step that is refused. -/
  | notModelled (mnemonic : String)
  /-- UnusedOpcode(B1) (30_encoding.md R86, 60_exceptions.md R284): raised by the meaning of the 12 unused codes when
  UNUSED_OPCODE_POLICY is `refuse`, the spec's default. The run ends; the state is the one before the step. Safe:
  the spec itself says a model must refuse there. -/
  | unusedOpcode (b1 : Byte)
  deriving DecidableEq, Repr

/-- What one instruction or one step answers. -/
abbrev Answer := Host.Outcome State Fault Refusal

/-- The registers at reset (log 1). -/
def Regs.atReset : Regs :=
  { a := Config.resetReg, b := Config.resetReg, c := Config.resetReg, d := Config.resetReg, e := Config.resetReg,
    h := Config.resetReg, l := Config.resetReg }

/-- The flags at reset (log 1). -/
def Flags.atReset : Flags :=
  { z := Config.resetFlag, cy := Config.resetFlag, s := Config.resetFlag, p := Config.resetFlag,
    ac := Config.resetFlag }

/-- The machine right after reset at the start of a run: PC, INTE, halted and ei_pending as 10_state.md R36 says,
in_count and io_out as R29 says, the parameters at the spec's defaults, and what R36 leaves at "any value" at the
values log 1 and log 2 name. -/
def State.reset : State :=
  { regs := Regs.atReset
    flags := Flags.atReset
    sp := Config.resetSp
    pc := 0
    inte := false
    eiPending := false
    halted := false
    mem := []
    inCount := 0
    ioOut := []
    params := Params.default
    lines := []
    ioFixed := []
    instrCount := 0
    cycles := 0
    clocks := 0 }

end Sys2Proof.Machine
end

