-- ==== Sys2Proof/Machine/Flags.lean ====
section
/-! DEFINITION. Every result and flag computation of the spec, on unbounded numbers and then reduced explicitly
(00_scope.md R5): 10_state.md R20 to R24, 41_arithmetic.md R131, R132, R145, R146, R148, R160, 42_logical.md R171,
R187 to R190. -/

namespace Sys2Proof.Machine

/-! ### Result flags (10_state.md R20) -/

/-- zero(v): 1 if v = 0. -/
def zeroFlag (v : Byte) : Bool := decide (v = 0)

/-- sign(v) = v[7]. -/
def signFlag (v : Byte) : Bool := v.getLsbD 7

/-- The number of 1 bits among v[7:0]. -/
def onesCount (v : Byte) : Nat := ((List.range 8).filter v.getLsbD).length

/-- parity(v): 1 if the number of 1 bits is even. -/
def parityFlag (v : Byte) : Bool := decide (onesCount v % 2 = 0)

/-- set_ZSP(v), with the two carries given. -/
def Flags.ofResult (v : Byte) (ac cy : Bool) : Flags :=
  { z := zeroFlag v, s := signFlag v, p := parityFlag v, ac := ac, cy := cy }

/-! ### Addition and subtraction -/

/-- An 8-bit result with the flags that go with it. -/
structure AluResult where
  val : Byte
  flags : Flags
  deriving DecidableEq, Repr

/-- AC of an addition: the carry from bit 3 into bit 4 (10_state.md R22, 41_arithmetic.md R131). -/
def auxCarryAdd (a x : Byte) (cin : Bool) : Bool := decide (15 < a.toNat % 16 + x.toNat % 16 + cin.toNat)

/-- AC of a subtraction: the carry out of bit 3 of adding the complement (10_state.md R22, 41_arithmetic.md R132). -/
def auxCarrySub (a x : Byte) (bin : Bool) : Bool :=
  decide (15 < a.toNat % 16 + (15 - x.toNat % 16) + (1 - bin.toNat))

/-- add8(a, x, cin) (41_arithmetic.md R131). -/
def add8 (a x : Byte) (cin : Bool) : AluResult :=
  let sum := a.toNat + x.toNat + cin.toNat
  let r : Byte := BitVec.ofNat 8 sum
  { val := r, flags := Flags.ofResult r (auxCarryAdd a x cin) (decide (255 < sum)) }

/-- sub8(a, x, bin) (41_arithmetic.md R132). -/
def sub8 (a x : Byte) (bin : Bool) : AluResult :=
  let diff : Int := (a.toNat : Int) - (x.toNat : Int) - (bin.toNat : Int)
  let r : Byte := BitVec.ofInt 8 diff
  { val := r, flags := Flags.ofResult r (auxCarrySub a x bin) (decide (diff < 0)) }

/-- INR: add8 with x = 1 and cin = 0, without the CY write (41_arithmetic.md R131, R146). -/
def inc8 (v : Byte) (old : Flags) : AluResult :=
  let r := add8 v 1 false
  { r with flags := { r.flags with cy := old.cy } }

/-- DCR: sub8 with x = 1 and bin = 0, without the CY write (41_arithmetic.md R132, R148). -/
def dec8 (v : Byte) (old : Flags) : AluResult :=
  let r := sub8 v 1 false
  { r with flags := { r.flags with cy := old.cy } }

/-- DAD: the 16-bit sum and its carry out of bit 15 (41_arithmetic.md R145). -/
def add16 (x y : Word) : Word × Bool :=
  let sum := x.toNat + y.toNat
  (BitVec.ofNat 16 sum, decide (65535 < sum))

/-! ### Decimal adjust (41_arithmetic.md R160) -/

/-- Step 1: the byte after it, AC, and c1, the carry out of bit 7. -/
def daaLow (a : Byte) (ac : Bool) : Byte × Bool × Bool :=
  if 9 < a.toNat % 16 ∨ ac = true then
    (BitVec.ofNat 8 (a.toNat + 6), decide (15 < a.toNat % 16 + 6), decide (255 < a.toNat + 6))
  else (a, false, false)

/-- Step 2, on the byte after step 1: the byte and CY. -/
def daaHigh (a : Byte) (cy c1 : Bool) : Byte × Bool :=
  if 9 < a.toNat / 16 ∨ cy = true ∨ c1 = true then (BitVec.ofNat 8 (a.toNat + 96), true)
  else (a, cy)

/-- DAA from A, AC and CY. -/
def daa8 (a : Byte) (f : Flags) : AluResult :=
  let low := daaLow a f.ac
  let high := daaHigh low.1 f.cy low.2.2
  { val := high.1, flags := Flags.ofResult high.1 low.2.1 high.2 }

/-! ### Logic (42_logical.md) -/

/-- logic_flags(r): Z, S, P from the result, CY and AC 0 (42_logical.md R171). -/
def logicFlags (r : Byte) : Flags := Flags.ofResult r false false

/-- AC after ANA and ANI by AND_AC_RULE (42_logical.md R171, 92 D5). -/
def andAuxCarry (rule : AndAcRule) (a x : Byte) : Bool :=
  match rule with
  | .zero => false
  | .orBit3 => a.getLsbD 3 || x.getLsbD 3

/-- AND (42_logical.md R171, R172). -/
def and8 (rule : AndAcRule) (a x : Byte) : AluResult :=
  { val := a &&& x, flags := { logicFlags (a &&& x) with ac := andAuxCarry rule a x } }

/-- OR (42_logical.md R171, R175). -/
def or8 (a x : Byte) : AluResult := { val := a ||| x, flags := logicFlags (a ||| x) }

/-- Exclusive OR (42_logical.md R171, R178). -/
def xor8 (a x : Byte) : AluResult := { val := a ^^^ x, flags := logicFlags (a ^^^ x) }

/-! ### Rotates: the byte and the bit rotated out, which goes to CY -/

/-- RLC (42_logical.md R187). -/
def rotLeft (a : Byte) : Byte × Bool :=
  (BitVec.ofNat 8 (a.toNat * 2 % 256 + a.toNat / 128), decide (a.toNat / 128 = 1))

/-- RRC (42_logical.md R188). -/
def rotRight (a : Byte) : Byte × Bool :=
  (BitVec.ofNat 8 (a.toNat / 2 + 128 * (a.toNat % 2)), decide (a.toNat % 2 = 1))

/-- RAL (42_logical.md R189). -/
def rotLeftCarry (a : Byte) (cy : Bool) : Byte × Bool :=
  (BitVec.ofNat 8 (a.toNat * 2 % 256 + cy.toNat), decide (a.toNat / 128 = 1))

/-- RAR (42_logical.md R190). -/
def rotRightCarry (a : Byte) (cy : Bool) : Byte × Bool :=
  (BitVec.ofNat 8 (a.toNat / 2 + 128 * cy.toNat), decide (a.toNat % 2 = 1))

/-! ### The flag byte of the PSW (10_state.md R24) -/

/-- F = S*128 + Z*64 + AC*16 + P*4 + 2 + CY. -/
def Flags.toByte (f : Flags) : Byte :=
  BitVec.ofNat 8 (f.s.toNat * 128 + f.z.toNat * 64 + f.ac.toNat * 16 + f.p.toNat * 4 + 2 + f.cy.toNat)

/-- S, Z, AC, P, CY from bits 7, 6, 4, 2, 0; bits 5, 3, 1 are ignored. -/
def Flags.ofByte (v : Byte) : Flags :=
  { s := v.getLsbD 7, z := v.getLsbD 6, ac := v.getLsbD 4, p := v.getLsbD 2, cy := v.getLsbD 0 }

end Sys2Proof.Machine
end

