-- ==== Sys2Proof/Syntax.lean ====
section
/-! DEFINITION. The instructions (30_encoding.md R75 to R80): one constructor of `Instr` for each instruction
rule of files 40 to 44, with the fields of the opcode-table rows that share the rule, and one for the 12 unused
codes (R86). A row of the table is a constructor at one value of its register, pair or number field. -/

namespace Sys2Proof

/-- The 8-bit registers a 3-bit operand code selects (10_state.md R12); code 110b is the cell M, no register. -/
inductive Reg8 where
  | b | c | d | e | h | l | a
  deriving DecidableEq, Repr

/-- The register pairs (10_state.md R13); the first named register is the high byte. -/
inductive Pair where
  | bc | de | hl
  deriving DecidableEq, Repr

/-- The 16-bit operands a 2-bit code selects (10_state.md R13). -/
inductive Rp where
  | bc | de | hl | sp
  deriving DecidableEq, Repr

/-- The condition codes (10_state.md R25). -/
inductive Cond where
  | nz | z | nc | c | po | pe | p | m
  deriving DecidableEq, Repr

/-- The 12 unused codes (30_encoding.md R86), each named by its value. -/
inductive UnusedCode where
  | x08 | x10 | x18 | x20 | x28 | x30 | x38 | xCB | xD9 | xDD | xED | xFD
  deriving DecidableEq, Repr

/-- The instructions. `d8` is B2, `d16` and `adr` are B3 ++ B2, `port` is B2 (30_encoding.md R73). -/
inductive Instr where
  -- 40_data_transfer.md
  | mviR (r : Reg8) (d8 : Byte)
  | mviM (d8 : Byte)
  | lxi (p : Pair) (d16 : Word)
  | lxiSp (d16 : Word)
  | movRR (dst src : Reg8)
  | movMR (src : Reg8)
  | movRM (dst : Reg8)
  | xchg
  | sphl
  | pchl
  | sta (adr : Word)
  | stax (p : Pair)
  | shld (adr : Word)
  | lda (adr : Word)
  | ldax (p : Pair)
  | lhld (adr : Word)
  -- 41_arithmetic.md
  | addR (r : Reg8)
  | addM
  | adi (d8 : Byte)
  | adcR (r : Reg8)
  | adcM
  | aci (d8 : Byte)
  | subR (r : Reg8)
  | subM
  | sui (d8 : Byte)
  | sbbR (r : Reg8)
  | sbbM
  | sbi (d8 : Byte)
  | dad (rp : Rp)
  | inrR (r : Reg8)
  | inrM
  | dcrR (r : Reg8)
  | dcrM
  | inx (rp : Rp)
  | dcx (rp : Rp)
  | daa
  -- 42_logical.md
  | anaR (r : Reg8)
  | anaM
  | ani (d8 : Byte)
  | oraR (r : Reg8)
  | oraM
  | ori (d8 : Byte)
  | xraR (r : Reg8)
  | xraM
  | xri (d8 : Byte)
  | cma
  | cmpR (r : Reg8)
  | cmpM
  | cpi (d8 : Byte)
  | stc
  | cmc
  | rlc
  | rrc
  | ral
  | rar
  -- 43_jumps.md
  | jmp (adr : Word)
  | jnz (adr : Word)
  | jz (adr : Word)
  | jnc (adr : Word)
  | jc (adr : Word)
  | jpo (adr : Word)
  | jpe (adr : Word)
  | jp (adr : Word)
  | jm (adr : Word)
  -- 44_stack_io_control.md
  | push (p : Pair)
  | pushPsw
  | pop (p : Pair)
  | popPsw
  | xthl
  | call (adr : Word)
  | cnz (adr : Word)
  | cz (adr : Word)
  | cnc (adr : Word)
  | cc (adr : Word)
  | cpo (adr : Word)
  | cpe (adr : Word)
  | cp (adr : Word)
  | cm (adr : Word)
  | ret
  | rnz
  | rz
  | rnc
  | rc
  | rpo
  | rpe
  | rp
  | rm
  | rst (n : BitVec 3)
  | inPort (port : Byte)
  | outPort (port : Byte)
  | nop
  | hlt
  | ei
  | di
  -- 30_encoding.md R86
  | unused (code : UnusedCode)
  deriving DecidableEq, Repr

end Sys2Proof
end

