-- ==== Sys2Proof/WellFormed.lean ====
section
/-! DEFINITION. Which terms of `Instr` stand for words of the machine. Every field but one is already of a type
that holds exactly the encodable values (30_encoding.md R87: every bit is decoded, every operand byte is legal);
the one check left is the pointer pair of STAX and LDAX, which is BC or DE: "There is no STAX H or STAX SP"
(40_data_transfer.md R112, R115). -/

namespace Sys2Proof

/-- The pointer pairs STAX and LDAX have (40_data_transfer.md R112, R115). -/
def Pair.isPointer : Pair → Bool
  | .bc => true
  | .de => true
  | .hl => false

/-- The term is an instruction the encoding has a word for. -/
def Instr.wf : Instr → Bool
  | .stax p => p.isPointer
  | .ldax p => p.isPointer
  | _ => true

end Sys2Proof
end

