-- ==== Sys2Proof/Decode.lean ====
section
/-! DEFINITION. Decoding and encoding (30_encoding.md R70 to R87): the fields of the first byte, the decoder by
quadrants, its reading of a list of bytes, the encoder, and the byte order of 16-bit items (20_memory.md R41). -/

namespace Sys2Proof

/-! ### Bytes of a word -/

/-- hi8(w) = w[15:8] (00_scope.md R5). -/
def hi8 (w : Word) : Byte := BitVec.ofNat 8 (w.toNat / 256)

/-- lo8(w) = w[7:0] (00_scope.md R5). -/
def lo8 (w : Word) : Byte := BitVec.ofNat 8 (w.toNat % 256)

/-- h ++ l, the 16-bit value h * 256 + l (00_scope.md R5). -/
def pairUp (h l : Byte) : Word := BitVec.ofNat 16 (h.toNat * 256 + l.toNat)

/-! ### Fields -/

/-- `gg`, bits 7:6 (30_encoding.md R72). -/
def fieldGG (b1 : Byte) : BitVec 2 := b1.extractLsb' 6 2

/-- `ddd`, `ccc`, `nnn` or `aaa`, bits 5:3 (30_encoding.md R72). -/
def fieldDDD (b1 : Byte) : BitVec 3 := b1.extractLsb' 3 3

/-- `sss`, bits 2:0 (30_encoding.md R72). -/
def fieldSSS (b1 : Byte) : BitVec 3 := b1.extractLsb' 0 3

/-- `gg ddd sss` put together to a first byte (30_encoding.md R71). -/
def opByte (gg : BitVec 2) (ddd sss : BitVec 3) : Byte := gg ++ ddd ++ sss

/-- The register of a 3-bit operand code, or `none` for code 110b, the cell M (10_state.md R12). -/
def regOf (c : BitVec 3) : Option Reg8 :=
  match c.toNat with
  | 0 => some .b
  | 1 => some .c
  | 2 => some .d
  | 3 => some .e
  | 4 => some .h
  | 5 => some .l
  | 6 => none
  | _ => some .a

/-- The operand code of a register (10_state.md R12). -/
def Reg8.code : Reg8 → BitVec 3
  | .b => 0b000
  | .c => 0b001
  | .d => 0b010
  | .e => 0b011
  | .h => 0b100
  | .l => 0b101
  | .a => 0b111

/-- The operand code of the cell M (10_state.md R12). -/
def codeM : BitVec 3 := 0b110

/-- The code of a pair (10_state.md R13). -/
def Pair.code : Pair → BitVec 2
  | .bc => 0b00
  | .de => 0b01
  | .hl => 0b10

/-- The code of a 16-bit operand (10_state.md R13). -/
def Rp.code : Rp → BitVec 2
  | .bc => 0b00
  | .de => 0b01
  | .hl => 0b10
  | .sp => 0b11

/-- The condition code (10_state.md R25). -/
def Cond.code : Cond → BitVec 3
  | .nz => 0b000
  | .z => 0b001
  | .nc => 0b010
  | .c => 0b011
  | .po => 0b100
  | .pe => 0b101
  | .p => 0b110
  | .m => 0b111

/-- The first byte an unused code is (30_encoding.md R86). -/
def UnusedCode.byte : UnusedCode → Byte
  | .x08 => 0x08
  | .x10 => 0x10
  | .x18 => 0x18
  | .x20 => 0x20
  | .x28 => 0x28
  | .x30 => 0x30
  | .x38 => 0x38
  | .xCB => 0xCB
  | .xD9 => 0xD9
  | .xDD => 0xDD
  | .xED => 0xED
  | .xFD => 0xFD

/-! ### The first byte -/

/-- What the first byte decides (30_encoding.md R70, R81): the instruction, or the instruction but for its one or
two operand bytes. The length of the instruction is the form's (R71). -/
inductive Form where
  | one (i : Instr)
  | two (mk : Byte → Instr)
  | three (mk : Word → Instr)

/-- The bytes an instruction of the form takes (30_encoding.md R71). -/
def Form.length : Form → Nat
  | .one _ => 1
  | .two _ => 2
  | .three _ => 3

/-- Quadrant 00 (30_encoding.md R76). -/
def decodeQuadrant0 (ddd sss : BitVec 3) : Form :=
  match sss.toNat, ddd.toNat with
  | 0, 0 => .one .nop
  | 0, 1 => .one (.unused .x08)
  | 0, 2 => .one (.unused .x10)
  | 0, 3 => .one (.unused .x18)
  | 0, 4 => .one (.unused .x20)
  | 0, 5 => .one (.unused .x28)
  | 0, 6 => .one (.unused .x30)
  | 0, _ => .one (.unused .x38)
  | 1, 0 => .three (.lxi .bc)
  | 1, 1 => .one (.dad .bc)
  | 1, 2 => .three (.lxi .de)
  | 1, 3 => .one (.dad .de)
  | 1, 4 => .three (.lxi .hl)
  | 1, 5 => .one (.dad .hl)
  | 1, 6 => .three .lxiSp
  | 1, _ => .one (.dad .sp)
  | 2, 0 => .one (.stax .bc)
  | 2, 1 => .one (.ldax .bc)
  | 2, 2 => .one (.stax .de)
  | 2, 3 => .one (.ldax .de)
  | 2, 4 => .three .shld
  | 2, 5 => .three .lhld
  | 2, 6 => .three .sta
  | 2, _ => .three .lda
  | 3, 0 => .one (.inx .bc)
  | 3, 1 => .one (.dcx .bc)
  | 3, 2 => .one (.inx .de)
  | 3, 3 => .one (.dcx .de)
  | 3, 4 => .one (.inx .hl)
  | 3, 5 => .one (.dcx .hl)
  | 3, 6 => .one (.inx .sp)
  | 3, _ => .one (.dcx .sp)
  | 4, _ => .one ((regOf ddd).elim .inrM .inrR)
  | 5, _ => .one ((regOf ddd).elim .dcrM .dcrR)
  | 6, _ => .two ((regOf ddd).elim .mviM .mviR)
  | _, 0 => .one .rlc
  | _, 1 => .one .rrc
  | _, 2 => .one .ral
  | _, 3 => .one .rar
  | _, 4 => .one .daa
  | _, 5 => .one .cma
  | _, 6 => .one .stc
  | _, _ => .one .cmc

/-- Quadrant 01, MOV and HLT (30_encoding.md R77). -/
def decodeQuadrant1 (ddd sss : BitVec 3) : Form :=
  match regOf ddd, regOf sss with
  | none, none => .one .hlt
  | none, some src => .one (.movMR src)
  | some dst, none => .one (.movRM dst)
  | some dst, some src => .one (.movRR dst src)

/-- Quadrant 10, the accumulator operations with a register or M (30_encoding.md R78). -/
def decodeQuadrant2 (aaa sss : BitVec 3) : Form :=
  match aaa.toNat with
  | 0 => .one ((regOf sss).elim .addM .addR)
  | 1 => .one ((regOf sss).elim .adcM .adcR)
  | 2 => .one ((regOf sss).elim .subM .subR)
  | 3 => .one ((regOf sss).elim .sbbM .sbbR)
  | 4 => .one ((regOf sss).elim .anaM .anaR)
  | 5 => .one ((regOf sss).elim .xraM .xraR)
  | 6 => .one ((regOf sss).elim .oraM .oraR)
  | _ => .one ((regOf sss).elim .cmpM .cmpR)

/-- Quadrant 11 (30_encoding.md R79). -/
def decodeQuadrant3 (ddd sss : BitVec 3) : Form :=
  match sss.toNat, ddd.toNat with
  | 0, 0 => .one .rnz
  | 0, 1 => .one .rz
  | 0, 2 => .one .rnc
  | 0, 3 => .one .rc
  | 0, 4 => .one .rpo
  | 0, 5 => .one .rpe
  | 0, 6 => .one .rp
  | 0, _ => .one .rm
  | 1, 0 => .one (.pop .bc)
  | 1, 1 => .one .ret
  | 1, 2 => .one (.pop .de)
  | 1, 3 => .one (.unused .xD9)
  | 1, 4 => .one (.pop .hl)
  | 1, 5 => .one .pchl
  | 1, 6 => .one .popPsw
  | 1, _ => .one .sphl
  | 2, 0 => .three .jnz
  | 2, 1 => .three .jz
  | 2, 2 => .three .jnc
  | 2, 3 => .three .jc
  | 2, 4 => .three .jpo
  | 2, 5 => .three .jpe
  | 2, 6 => .three .jp
  | 2, _ => .three .jm
  | 3, 0 => .three .jmp
  | 3, 1 => .one (.unused .xCB)
  | 3, 2 => .two .outPort
  | 3, 3 => .two .inPort
  | 3, 4 => .one .xthl
  | 3, 5 => .one .xchg
  | 3, 6 => .one .di
  | 3, _ => .one .ei
  | 4, 0 => .three .cnz
  | 4, 1 => .three .cz
  | 4, 2 => .three .cnc
  | 4, 3 => .three .cc
  | 4, 4 => .three .cpo
  | 4, 5 => .three .cpe
  | 4, 6 => .three .cp
  | 4, _ => .three .cm
  | 5, 0 => .one (.push .bc)
  | 5, 1 => .three .call
  | 5, 2 => .one (.push .de)
  | 5, 3 => .one (.unused .xDD)
  | 5, 4 => .one (.push .hl)
  | 5, 5 => .one (.unused .xED)
  | 5, 6 => .one .pushPsw
  | 5, _ => .one (.unused .xFD)
  | 6, 0 => .two .adi
  | 6, 1 => .two .aci
  | 6, 2 => .two .sui
  | 6, 3 => .two .sbi
  | 6, 4 => .two .ani
  | 6, 5 => .two .xri
  | 6, 6 => .two .ori
  | 6, _ => .two .cpi
  | _, _ => .one (.rst ddd)

/-- What the first byte decides: total on the 256 values, and dependent on nothing else (30_encoding.md R81). -/
def decodeForm (b1 : Byte) : Form :=
  match (fieldGG b1).toNat with
  | 0 => decodeQuadrant0 (fieldDDD b1) (fieldSSS b1)
  | 1 => decodeQuadrant1 (fieldDDD b1) (fieldSSS b1)
  | 2 => decodeQuadrant2 (fieldDDD b1) (fieldSSS b1)
  | _ => decodeQuadrant3 (fieldDDD b1) (fieldSSS b1)

/-- `len(B1)`, written from the bit patterns of 30_encoding.md R74 and not from the decoder. An unused code counts
as its first byte alone, the row's length in the opcode table (R74 leaves it to R86). -/
def lengthByPattern (b1 : Byte) : Nat :=
  let gg := (fieldGG b1).toNat
  let ddd := (fieldDDD b1).toNat
  let sss := (fieldSSS b1).toNat
  if (gg = 0 ∧ sss = 1 ∧ ddd % 2 = 0) ∨ (gg = 0 ∧ sss = 2 ∧ 4 ≤ ddd) ∨ (gg = 3 ∧ sss = 2) ∨ (gg = 3 ∧ sss = 4)
      ∨ b1 = 0xC3 ∨ b1 = 0xCD then 3
  else if (gg = 0 ∧ sss = 6) ∨ (gg = 3 ∧ sss = 6) ∨ b1 = 0xD3 ∨ b1 = 0xDB then 2
  else 1

/-! ### The decoder on bytes -/

/-- Why a list of bytes holds no instruction. -/
inductive DecodeError where
  /-- There is no first byte. -/
  | noBytes
  /-- The first byte asks for operand bytes (30_encoding.md R74) that are not there. -/
  | operandBytesMissing (b1 : Byte)
  deriving DecidableEq, Repr

/-- The instruction at the front of a list of bytes, and the bytes after it (30_encoding.md R70, R73, R81). -/
def decode : List Byte → Except DecodeError (Instr × List Byte)
  | [] => .error .noBytes
  | b1 :: rest =>
    match decodeForm b1, rest with
    | .one i, _ => .ok (i, rest)
    | .two mk, b2 :: rest => .ok (mk b2, rest)
    | .three mk, b2 :: b3 :: rest => .ok (mk (pairUp b3 b2), rest)
    | _, _ => .error (.operandBytesMissing b1)

/-- The bytes of an opcode-table word: byte k is bits 8k+7 to 8k, with every bit from `nbits` on taken as 0. -/
def tableBytes (nbits w : Nat) : List Byte :=
  let v := w % 2 ^ nbits
  [BitVec.ofNat 8 v, BitVec.ofNat 8 (v / 256), BitVec.ofNat 8 (v / 65536)]

/-- The instruction the decoder reads from an instruction word numbered as spec/opcode_table.json numbers it. -/
def decodeTableWord (nbits w : Nat) : Option Instr :=
  match decode (tableBytes nbits w) with
  | .ok (i, _) => some i
  | .error _ => none

/-! ### The encoder -/

/-- One byte (format F1, 30_encoding.md R71). -/
def enc1 (b1 : Byte) : List Byte := [b1]

/-- A first byte and a 16-bit operand, low byte first (format F3, 30_encoding.md R71, 20_memory.md R41). -/
def enc3 (b1 : Byte) (w : Word) : List Byte := [b1, lo8 w, hi8 w]

/-- A first byte of pattern `00 rp bit sss` or `11 rp bit sss` (30_encoding.md R72). -/
def rpByte (gg rp : BitVec 2) (bit : BitVec 1) (sss : BitVec 3) : Byte := gg ++ rp ++ bit ++ sss

/-- The words of an instruction, from the "Encoding" line of its rule in files 40 to 44. -/
def encode : Instr → List Byte
  | .mviR r d8 => [opByte 0b00 r.code 0b110, d8]
  | .mviM d8 => [0x36, d8]
  | .lxi p d16 => enc3 (rpByte 0b00 p.code 0b0 0b001) d16
  | .lxiSp d16 => enc3 0x31 d16
  | .movRR dst src => enc1 (opByte 0b01 dst.code src.code)
  | .movMR src => enc1 (opByte 0b01 codeM src.code)
  | .movRM dst => enc1 (opByte 0b01 dst.code codeM)
  | .xchg => enc1 0xEB
  | .sphl => enc1 0xF9
  | .pchl => enc1 0xE9
  | .sta adr => enc3 0x32 adr
  | .stax p => enc1 (rpByte 0b00 p.code 0b0 0b010)
  | .shld adr => enc3 0x22 adr
  | .lda adr => enc3 0x3A adr
  | .ldax p => enc1 (rpByte 0b00 p.code 0b1 0b010)
  | .lhld adr => enc3 0x2A adr
  | .addR r => enc1 (opByte 0b10 0b000 r.code)
  | .addM => enc1 0x86
  | .adi d8 => [0xC6, d8]
  | .adcR r => enc1 (opByte 0b10 0b001 r.code)
  | .adcM => enc1 0x8E
  | .aci d8 => [0xCE, d8]
  | .subR r => enc1 (opByte 0b10 0b010 r.code)
  | .subM => enc1 0x96
  | .sui d8 => [0xD6, d8]
  | .sbbR r => enc1 (opByte 0b10 0b011 r.code)
  | .sbbM => enc1 0x9E
  | .sbi d8 => [0xDE, d8]
  | .dad rp => enc1 (rpByte 0b00 rp.code 0b1 0b001)
  | .inrR r => enc1 (opByte 0b00 r.code 0b100)
  | .inrM => enc1 0x34
  | .dcrR r => enc1 (opByte 0b00 r.code 0b101)
  | .dcrM => enc1 0x35
  | .inx rp => enc1 (rpByte 0b00 rp.code 0b0 0b011)
  | .dcx rp => enc1 (rpByte 0b00 rp.code 0b1 0b011)
  | .daa => enc1 0x27
  | .anaR r => enc1 (opByte 0b10 0b100 r.code)
  | .anaM => enc1 0xA6
  | .ani d8 => [0xE6, d8]
  | .oraR r => enc1 (opByte 0b10 0b110 r.code)
  | .oraM => enc1 0xB6
  | .ori d8 => [0xF6, d8]
  | .xraR r => enc1 (opByte 0b10 0b101 r.code)
  | .xraM => enc1 0xAE
  | .xri d8 => [0xEE, d8]
  | .cma => enc1 0x2F
  | .cmpR r => enc1 (opByte 0b10 0b111 r.code)
  | .cmpM => enc1 0xBE
  | .cpi d8 => [0xFE, d8]
  | .stc => enc1 0x37
  | .cmc => enc1 0x3F
  | .rlc => enc1 0x07
  | .rrc => enc1 0x0F
  | .ral => enc1 0x17
  | .rar => enc1 0x1F
  | .jmp adr => enc3 0xC3 adr
  | .jnz adr => enc3 0xC2 adr
  | .jz adr => enc3 0xCA adr
  | .jnc adr => enc3 0xD2 adr
  | .jc adr => enc3 0xDA adr
  | .jpo adr => enc3 0xE2 adr
  | .jpe adr => enc3 0xEA adr
  | .jp adr => enc3 0xF2 adr
  | .jm adr => enc3 0xFA adr
  | .push p => enc1 (rpByte 0b11 p.code 0b0 0b101)
  | .pushPsw => enc1 0xF5
  | .pop p => enc1 (rpByte 0b11 p.code 0b0 0b001)
  | .popPsw => enc1 0xF1
  | .xthl => enc1 0xE3
  | .call adr => enc3 0xCD adr
  | .cnz adr => enc3 0xC4 adr
  | .cz adr => enc3 0xCC adr
  | .cnc adr => enc3 0xD4 adr
  | .cc adr => enc3 0xDC adr
  | .cpo adr => enc3 0xE4 adr
  | .cpe adr => enc3 0xEC adr
  | .cp adr => enc3 0xF4 adr
  | .cm adr => enc3 0xFC adr
  | .ret => enc1 0xC9
  | .rnz => enc1 0xC0
  | .rz => enc1 0xC8
  | .rnc => enc1 0xD0
  | .rc => enc1 0xD8
  | .rpo => enc1 0xE0
  | .rpe => enc1 0xE8
  | .rp => enc1 0xF0
  | .rm => enc1 0xF8
  | .rst n => enc1 (opByte 0b11 n 0b111)
  | .inPort port => [0xDB, port]
  | .outPort port => [0xD3, port]
  | .nop => enc1 0x00
  | .hlt => enc1 0x76
  | .ei => enc1 0xFB
  | .di => enc1 0xF3
  | .unused code => enc1 code.byte

end Sys2Proof
end

