-- ==== Sys2Proof/Machine/Operands.lean ====
section
/-! DEFINITION. Register operands (10_state.md R10 to R13, R25): the registers by name, the pairs as views of two
registers, the 16-bit operands, and the conditions. The memory operands are in Ops.lean. -/

namespace Sys2Proof.Machine

/-! ### 8-bit registers -/

/-- The register a code names (10_state.md R12). -/
def Regs.get (g : Regs) : Reg8 → Byte
  | .b => g.b
  | .c => g.c
  | .d => g.d
  | .e => g.e
  | .h => g.h
  | .l => g.l
  | .a => g.a

/-- Writes one register and no other (10_state.md R12). -/
def Regs.set (g : Regs) (r : Reg8) (v : Byte) : Regs :=
  match r with
  | .b => { g with b := v }
  | .c => { g with c := v }
  | .d => { g with d := v }
  | .e => { g with e := v }
  | .h => { g with h := v }
  | .l => { g with l := v }
  | .a => { g with a := v }

/-- `x[c]` for a register code (00_scope.md R5). -/
def State.reg (s : State) (r : Reg8) : Byte := s.regs.get r

/-- `x[c] <- v` for a register code (00_scope.md R5). -/
def State.setReg (s : State) (r : Reg8) (v : Byte) : State := { s with regs := s.regs.set r v }

/-! ### Pairs -/

/-- The high register of a pair: "старшими є перші регістри пар" (10_state.md R13). -/
def pairHigh : Pair → Reg8
  | .bc => .b
  | .de => .d
  | .hl => .h

/-- The low register of a pair (10_state.md R13). -/
def pairLow : Pair → Reg8
  | .bc => .c
  | .de => .e
  | .hl => .l

/-- BC = B ++ C, DE = D ++ E, HL = H ++ L (10_state.md R13). -/
def State.pair (s : State) (p : Pair) : Word := pairUp (s.reg (pairHigh p)) (s.reg (pairLow p))

/-- Writing a pair writes its two registers (10_state.md R13). -/
def State.setPair (s : State) (p : Pair) (w : Word) : State :=
  (s.setReg (pairHigh p) (hi8 w)).setReg (pairLow p) (lo8 w)

/-- Writes SP. -/
def State.setSp (s : State) (w : Word) : State := { s with sp := w }

/-- `rp[c]`: BC, DE, HL or SP (10_state.md R13). -/
def State.rp (s : State) : Rp → Word
  | .bc => s.pair .bc
  | .de => s.pair .de
  | .hl => s.pair .hl
  | .sp => s.sp

/-- `rp[c] <- w` (10_state.md R13). -/
def State.setRp (s : State) (r : Rp) (w : Word) : State :=
  match r with
  | .bc => s.setPair .bc w
  | .de => s.setPair .de w
  | .hl => s.setPair .hl w
  | .sp => s.setSp w

/-! ### PC, flags, conditions -/

/-- `pc <- target` (00_scope.md R5). -/
def State.setPc (s : State) (w : Word) : State := { s with pc := w }

/-- Writes the five flags. -/
def State.setFlags (s : State) (f : Flags) : State := { s with flags := f }

/-- `cond(ccc)` (10_state.md R25). -/
def Flags.holds (f : Flags) : Cond → Bool
  | .nz => !f.z
  | .z => f.z
  | .nc => !f.cy
  | .c => f.cy
  | .po => !f.p
  | .pe => f.p
  | .p => !f.s
  | .m => f.s

end Sys2Proof.Machine
end

