-- ==== Sys2Proof/Machine/Ops.lean ====
section
/-! DEFINITION. The operations the meanings share: memory (20_memory.md), the stack (R58), control transfer
(43_jumps.md, 44_stack_io_control.md R226, R235, R244), input and output (R250, R251), taking an interrupt and the
return from it (60_exceptions.md R274, R278), and reset (70_reset_and_hazards.md R300). -/

namespace Sys2Proof.Machine

/-! ### The list of cells -/

/-- The byte at an address; an unlisted address reads as `Config.unlistedByte` (log 2). -/
def Memory.get : Memory → Nat → Byte
  | [], _ => Config.unlistedByte
  | (k, w) :: rest, a => if a = k then w else Memory.get rest a

/-- An entry in front of a list, left out when it is what an unlisted address reads as. -/
def Memory.entry (a : Nat) (v : Byte) (m : Memory) : Memory :=
  if v = Config.unlistedByte then m else (a, v) :: m

/-- The memory with the byte at one address replaced, in canonical form. -/
def Memory.put : Memory → Nat → Byte → Memory
  | [], a, v => Memory.entry a v []
  | (k, w) :: rest, a, v =>
    if a < k then Memory.entry a v ((k, w) :: rest)
    else if a = k then Memory.entry a v rest
    else (k, w) :: Memory.put rest a v

/-! ### Memory accesses (20_memory.md R46, 92 D10) -/

/-- The region holds the address. -/
def Region.holds (r : Region) (a : Word) : Bool := decide (r.base ≤ a.toNat) && decide (a.toNat < r.base + r.size)

/-- What stands behind an address: the first region that holds it, RAM where none does (MEM_MAP, log 6). -/
def kindIn : List Region → Word → MemKind
  | [], _ => .ram
  | r :: rest, a => if Region.holds r a then r.kind else kindIn rest a

/-- What stands behind an address of this machine. -/
def State.kindAt (s : State) (a : Word) : MemKind := kindIn s.params.memMap a

/-- MemRead(addr, 1): the cell, or for an absent cell a free value (20_memory.md R46, 93 U16, log 6). -/
def State.readByte (s : State) (kind : CycleKind) (a : Word) : Byte :=
  match s.kindAt a with
  | .absent => Config.absentByte s.instrCount kind a
  | _ => s.mem.get a.toNat

/-- The memory after MemWrite(addr, 1, v): ROM and absent cells ignore it (93 U16). -/
def State.memAfter (s : State) (a : Word) (v : Byte) : Memory :=
  match s.kindAt a with
  | .ram => s.mem.put a.toNat v
  | _ => s.mem

/-- MemWrite(addr, 1, v) (00_scope.md R5). -/
def State.writeByte (s : State) (a : Word) (v : Byte) : State := { s with mem := s.memAfter a v }

/-- MemRead(addr, 2): the low byte at the lower address, addresses modulo 65536 (00_scope.md R5, 20_memory.md R45). -/
def State.readWord (s : State) (kind : CycleKind) (a : Word) : Word :=
  pairUp (s.readByte kind (a + 1)) (s.readByte kind a)

/-- MemWrite(addr, 2, w): lo8(w) at addr, then hi8(w) at addr + 1 (00_scope.md R5, 20_memory.md R43). -/
def State.writeWord (s : State) (a : Word) (w : Word) : State :=
  (s.writeByte a (lo8 w)).writeByte (a + 1) (hi8 w)

/-- Reading M, the cell at HL (10_state.md R12). -/
def State.readM (s : State) : Byte := s.readByte .memRead (s.pair .hl)

/-- Writing M, the cell at HL (10_state.md R12). -/
def State.writeM (s : State) (v : Byte) : State := s.writeByte (s.pair .hl) v

/-! ### The accumulator operations (41_arithmetic.md R130, 42_logical.md R170) -/

/-- A and the flags take the result. -/
def State.setAcc (s : State) (r : AluResult) : State := (s.setReg .a r.val).setFlags r.flags

/-- A and CY take the result of a rotate; no other flag changes (42_logical.md R187). -/
def State.setRotated (s : State) (r : Byte × Bool) : State :=
  (s.setReg .a r.1).setFlags { s.flags with cy := r.2 }

/-! ### The stack (20_memory.md R58) -/

/-- push16: the high byte at SP-1, then the low byte at SP-2, then SP is lowered by 2. -/
def State.push16 (s : State) (w : Word) : State :=
  ((s.writeByte (s.sp - 1) (hi8 w)).writeByte (s.sp - 2) (lo8 w)).setSp (s.sp - 2)

/-- pop16, the item: low byte at SP, high byte at SP+1. -/
def State.top16 (s : State) : Word := s.readWord .stackRead s.sp

/-- pop16, the state: SP is raised by 2, memory is not changed. -/
def State.drop16 (s : State) : State := s.setSp (s.sp + 2)

/-! ### Control transfer: PC is `next` when the instruction's body runs (30_encoding.md R81) -/

/-- A conditional jump (43_jumps.md section 3). -/
def State.jumpIf (s : State) (test : Cond) (adr : Word) : State :=
  if s.flags.holds test then s.setPc adr else s

/-- CALL: push `next`, then jump (44_stack_io_control.md R226). -/
def State.callTo (s : State) (adr : Word) : State := (s.push16 s.pc).setPc adr

/-- cond_call(c) (44_stack_io_control.md R226). -/
def State.callIf (s : State) (test : Cond) (adr : Word) : State :=
  if s.flags.holds test then s.callTo adr else s

/-- RET: pop into PC (44_stack_io_control.md R235). It is also the return from an interrupt: there is no other
(60_exceptions.md R278). -/
def State.returnTo (s : State) : State := s.drop16.setPc s.top16

/-- cond_ret(c) (44_stack_io_control.md R235). -/
def State.retIf (s : State) (test : Cond) : State :=
  if s.flags.holds test then s.returnTo else s

/-- The address RST n enters at, 8 * n (44_stack_io_control.md R244, 20_memory.md R47). -/
def restartAddress (n : BitVec 3) : Word := BitVec.ofNat 16 (8 * n.toNat)

/-- RST n: push PC, then go to 8 * n (44_stack_io_control.md R244). -/
def State.restart (s : State) (n : BitVec 3) : State := s.callTo (restartAddress n)

/-! ### Input and output (44_stack_io_control.md R250, R251) -/

/-- An answer the environment has fixed for this IN, if there is one. -/
def fixedAnswer (port : Byte) (n : Nat) : List IoAnswer → Option Byte
  | [] => none
  | x :: rest => if x.port = port ∧ x.n = n then some x.value else fixedAnswer port n rest

/-- IO_READ(port, in_count): what the environment has fixed, otherwise a free value (log 7). -/
def State.ioRead (s : State) (port : Byte) : Byte :=
  (fixedAnswer port s.inCount s.ioFixed).getD (Config.ioRead port s.inCount)

/-- IN: A takes the answer and in_count goes up by one (44_stack_io_control.md R250). -/
def State.input (s : State) (port : Byte) : State :=
  { s.setReg .a (s.ioRead port) with inCount := s.inCount + 1 }

/-- OUT: the pair is appended to the trace (44_stack_io_control.md R251). -/
def State.output (s : State) (port : Byte) : State := { s with ioOut := s.ioOut ++ [(port, s.reg .a)] }

/-! ### The interrupt and reset -/

/-- The counters after an accepted interrupt: it costs the RST it executes, 3 cycles and 11 clocks
(70_reset_and_hazards.md R311). -/
def State.countInterrupt (s : State) : State := { s with cycles := s.cycles + 3, clocks := s.clocks + 11 }

/-- accept_interrupt() (60_exceptions.md R274, R275): INTE and halted are cleared, then RST n runs with no fetch and
without advancing PC, so the PC it pushes is the address of the instruction that would have run next. -/
def State.acceptInterrupt (s : State) (n : BitVec 3) : State :=
  (({ s with inte := false, halted := false }).restart n).countInterrupt

/-- reset() (70_reset_and_hazards.md R300): PC, INTE, halted and ei_pending, and nothing else. -/
def State.pulledReset (s : State) : State :=
  { s with pc := 0, inte := false, halted := false, eiPending := false }

end Sys2Proof.Machine
end

