-- ==== Sys2Proof/Machine/Arithmetic.lean ====
section
/-! DEFINITION. The arithmetic instructions (41_arithmetic.md). PC is `next` on entry (30_encoding.md R81). -/

namespace Sys2Proof.Machine

/-- ADD r (R133). -/
def execAddR (r : Reg8) (s : State) : Answer := .next (s.setAcc (add8 (s.reg .a) (s.reg r) false))

/-- ADD M (R134). -/
def execAddM (s : State) : Answer := .next (s.setAcc (add8 (s.reg .a) s.readM false))

/-- ADI d8 (R135). -/
def execAdi (d8 : Byte) (s : State) : Answer := .next (s.setAcc (add8 (s.reg .a) d8 false))

/-- ADC r (R136). -/
def execAdcR (r : Reg8) (s : State) : Answer := .next (s.setAcc (add8 (s.reg .a) (s.reg r) s.flags.cy))

/-- ADC M (R137). -/
def execAdcM (s : State) : Answer := .next (s.setAcc (add8 (s.reg .a) s.readM s.flags.cy))

/-- ACI d8 (R138). -/
def execAci (d8 : Byte) (s : State) : Answer := .next (s.setAcc (add8 (s.reg .a) d8 s.flags.cy))

/-- SUB r (R139). -/
def execSubR (r : Reg8) (s : State) : Answer := .next (s.setAcc (sub8 (s.reg .a) (s.reg r) false))

/-- SUB M (R140). -/
def execSubM (s : State) : Answer := .next (s.setAcc (sub8 (s.reg .a) s.readM false))

/-- SUI d8 (R141). -/
def execSui (d8 : Byte) (s : State) : Answer := .next (s.setAcc (sub8 (s.reg .a) d8 false))

/-- SBB r (R142). -/
def execSbbR (r : Reg8) (s : State) : Answer := .next (s.setAcc (sub8 (s.reg .a) (s.reg r) s.flags.cy))

/-- SBB M (R143). -/
def execSbbM (s : State) : Answer := .next (s.setAcc (sub8 (s.reg .a) s.readM s.flags.cy))

/-- SBI d8 (R144). -/
def execSbi (d8 : Byte) (s : State) : Answer := .next (s.setAcc (sub8 (s.reg .a) d8 s.flags.cy))

/-- DAD rp (R145): HL and CY, no other flag. -/
def execDad (rp : Rp) (s : State) : Answer :=
  .next ((s.setPair .hl (add16 (s.pair .hl) (s.rp rp)).1).setFlags
    { s.flags with cy := (add16 (s.pair .hl) (s.rp rp)).2 })

/-- INR r (R146): CY is not changed. -/
def execInrR (r : Reg8) (s : State) : Answer :=
  .next ((s.setReg r (inc8 (s.reg r) s.flags).val).setFlags (inc8 (s.reg r) s.flags).flags)

/-- INR M (R147): one read, then one write, of the same address. -/
def execInrM (s : State) : Answer :=
  .next ((s.writeM (inc8 s.readM s.flags).val).setFlags (inc8 s.readM s.flags).flags)

/-- DCR r (R148): CY is not changed. -/
def execDcrR (r : Reg8) (s : State) : Answer :=
  .next ((s.setReg r (dec8 (s.reg r) s.flags).val).setFlags (dec8 (s.reg r) s.flags).flags)

/-- DCR M (R149). -/
def execDcrM (s : State) : Answer :=
  .next ((s.writeM (dec8 s.readM s.flags).val).setFlags (dec8 s.readM s.flags).flags)

/-- INX rp (R150): no flag. -/
def execInx (rp : Rp) (s : State) : Answer := .next (s.setRp rp (s.rp rp + 1))

/-- DCX rp (R151): no flag. -/
def execDcx (rp : Rp) (s : State) : Answer := .next (s.setRp rp (s.rp rp - 1))

/-- DAA (R160). -/
def execDaa (s : State) : Answer := .next (s.setAcc (daa8 (s.reg .a) s.flags))

end Sys2Proof.Machine
end

