-- ==== Sys2Proof/Machine/DataTransfer.lean ====
section
/-! DEFINITION. The data-transfer instructions (40_data_transfer.md). PC is `next` on entry (30_encoding.md R81);
no flag is touched (R100). -/

namespace Sys2Proof.Machine

/-- MVI r,d8 (R101). -/
def execMviR (r : Reg8) (d8 : Byte) (s : State) : Answer := .next (s.setReg r d8)

/-- MVI M,d8 (R102). -/
def execMviM (d8 : Byte) (s : State) : Answer := .next (s.writeM d8)

/-- LXI B / D / H (R103). -/
def execLxi (p : Pair) (d16 : Word) (s : State) : Answer := .next (s.setPair p d16)

/-- LXI SP (R104). -/
def execLxiSp (d16 : Word) (s : State) : Answer := .next (s.setSp d16)

/-- MOV r1,r2 (R105). -/
def execMovRR (dst src : Reg8) (s : State) : Answer := .next (s.setReg dst (s.reg src))

/-- MOV M,r (R106). -/
def execMovMR (src : Reg8) (s : State) : Answer := .next (s.writeM (s.reg src))

/-- MOV r,M (R107). -/
def execMovRM (dst : Reg8) (s : State) : Answer := .next (s.setReg dst s.readM)

/-- XCHG (R108). -/
def execXchg (s : State) : Answer := .next ((s.setPair .hl (s.pair .de)).setPair .de (s.pair .hl))

/-- SPHL (R109). -/
def execSphl (s : State) : Answer := .next (s.setSp (s.pair .hl))

/-- PCHL (R110). -/
def execPchl (s : State) : Answer := .next (s.setPc (s.pair .hl))

/-- STA adr (R111). -/
def execSta (adr : Word) (s : State) : Answer := .next (s.writeByte adr (s.reg .a))

/-- STAX B / D (R112). -/
def execStax (p : Pair) (s : State) : Answer := .next (s.writeByte (s.pair p) (s.reg .a))

/-- SHLD adr (R113). -/
def execShld (adr : Word) (s : State) : Answer := .next (s.writeWord adr (s.pair .hl))

/-- LDA adr (R114). -/
def execLda (adr : Word) (s : State) : Answer := .next (s.setReg .a (s.readByte .memRead adr))

/-- LDAX B / D (R115). -/
def execLdax (p : Pair) (s : State) : Answer := .next (s.setReg .a (s.readByte .memRead (s.pair p)))

/-- LHLD adr (R116). -/
def execLhld (adr : Word) (s : State) : Answer := .next (s.setPair .hl (s.readWord .memRead adr))

end Sys2Proof.Machine
end

