-- ==== Sys2Proof/Machine/Jumps.lean ====
section
/-! DEFINITION. The jump instructions (43_jumps.md). PC is `next` on entry (30_encoding.md R81), so a jump that is
not taken changes nothing; PCHL is in DataTransfer.lean (R110). -/

namespace Sys2Proof.Machine

/-- JMP adr (R201). -/
def execJmp (adr : Word) (s : State) : Answer := .next (s.setPc adr)

/-- JNZ adr: jump if Z = 0 (R202). -/
def execJnz (adr : Word) (s : State) : Answer := .next (s.jumpIf .nz adr)

/-- JZ adr: jump if Z = 1 (R203). -/
def execJz (adr : Word) (s : State) : Answer := .next (s.jumpIf .z adr)

/-- JNC adr: jump if CY = 0 (R204). -/
def execJnc (adr : Word) (s : State) : Answer := .next (s.jumpIf .nc adr)

/-- JC adr: jump if CY = 1 (R205). -/
def execJc (adr : Word) (s : State) : Answer := .next (s.jumpIf .c adr)

/-- JPO adr: jump if P = 0 (R206). -/
def execJpo (adr : Word) (s : State) : Answer := .next (s.jumpIf .po adr)

/-- JPE adr: jump if P = 1 (R207). -/
def execJpe (adr : Word) (s : State) : Answer := .next (s.jumpIf .pe adr)

/-- JP adr: jump if S = 0 (R208). -/
def execJp (adr : Word) (s : State) : Answer := .next (s.jumpIf .p adr)

/-- JM adr: jump if S = 1 (R209). -/
def execJm (adr : Word) (s : State) : Answer := .next (s.jumpIf .m adr)

end Sys2Proof.Machine
end

