-- ==== Sys2Proof/Machine/Logical.lean ====
section
/-! DEFINITION. The logical, compare, carry-flag and rotate instructions (42_logical.md). PC is `next` on entry
(30_encoding.md R81). -/

namespace Sys2Proof.Machine

/-- ANA r (R172). -/
def execAnaR (r : Reg8) (s : State) : Answer := .next (s.setAcc (and8 s.params.andAc (s.reg .a) (s.reg r)))

/-- ANA M (R173). -/
def execAnaM (s : State) : Answer := .next (s.setAcc (and8 s.params.andAc (s.reg .a) s.readM))

/-- ANI d8 (R174). -/
def execAni (d8 : Byte) (s : State) : Answer := .next (s.setAcc (and8 s.params.andAc (s.reg .a) d8))

/-- ORA r (R175). -/
def execOraR (r : Reg8) (s : State) : Answer := .next (s.setAcc (or8 (s.reg .a) (s.reg r)))

/-- ORA M (R176). -/
def execOraM (s : State) : Answer := .next (s.setAcc (or8 (s.reg .a) s.readM))

/-- ORI d8 (R177). -/
def execOri (d8 : Byte) (s : State) : Answer := .next (s.setAcc (or8 (s.reg .a) d8))

/-- XRA r (R178). -/
def execXraR (r : Reg8) (s : State) : Answer := .next (s.setAcc (xor8 (s.reg .a) (s.reg r)))

/-- XRA M (R179). -/
def execXraM (s : State) : Answer := .next (s.setAcc (xor8 (s.reg .a) s.readM))

/-- XRI d8 (R180). -/
def execXri (d8 : Byte) (s : State) : Answer := .next (s.setAcc (xor8 (s.reg .a) d8))

/-- CMA (R181): A <- 255 - A, no flag. -/
def execCma (s : State) : Answer := .next (s.setReg .a (BitVec.ofNat 8 (255 - (s.reg .a).toNat)))

/-- CMP r (R182): the flags of the subtraction, A unchanged. -/
def execCmpR (r : Reg8) (s : State) : Answer := .next (s.setFlags (sub8 (s.reg .a) (s.reg r) false).flags)

/-- CMP M (R183). -/
def execCmpM (s : State) : Answer := .next (s.setFlags (sub8 (s.reg .a) s.readM false).flags)

/-- CPI d8 (R184). -/
def execCpi (d8 : Byte) (s : State) : Answer := .next (s.setFlags (sub8 (s.reg .a) d8 false).flags)

/-- STC (R185). -/
def execStc (s : State) : Answer := .next (s.setFlags { s.flags with cy := true })

/-- CMC (R186). -/
def execCmc (s : State) : Answer := .next (s.setFlags { s.flags with cy := !s.flags.cy })

/-- RLC (R187). -/
def execRlc (s : State) : Answer := .next (s.setRotated (rotLeft (s.reg .a)))

/-- RRC (R188). -/
def execRrc (s : State) : Answer := .next (s.setRotated (rotRight (s.reg .a)))

/-- RAL (R189): the CY that comes in is the one before the instruction. -/
def execRal (s : State) : Answer := .next (s.setRotated (rotLeftCarry (s.reg .a) s.flags.cy))

/-- RAR (R190). -/
def execRar (s : State) : Answer := .next (s.setRotated (rotRightCarry (s.reg .a) s.flags.cy))

end Sys2Proof.Machine
end

