-- ==== Sys2Proof/Machine/StackIoControl.lean ====
section
/-! DEFINITION. The stack, subroutine, input/output and control instructions (44_stack_io_control.md). PC is `next`
on entry (30_encoding.md R81). -/

namespace Sys2Proof.Machine

/-- PUSH rp (R221). -/
def execPush (p : Pair) (s : State) : Answer := .next (s.push16 (s.pair p))

/-- PUSH PSW (R222): A is the high byte, the flag byte the low one. -/
def execPushPsw (s : State) : Answer := .next (s.push16 (pairUp (s.reg .a) s.flags.toByte))

/-- POP rp (R223). -/
def execPop (p : Pair) (s : State) : Answer := .next (s.drop16.setPair p s.top16)

/-- POP PSW (R224). -/
def execPopPsw (s : State) : Answer :=
  .next ((s.drop16.setReg .a (hi8 s.top16)).setFlags (Flags.ofByte (lo8 s.top16)))

/-- XTHL (R225): both bytes are read, then the high byte is written, then the low one; SP is not changed. -/
def execXthl (s : State) : Answer :=
  .next (((s.writeByte (s.sp + 1) (s.reg .h)).writeByte s.sp (s.reg .l)).setPair .hl s.top16)

/-- CALL adr (R226). -/
def execCall (adr : Word) (s : State) : Answer := .next (s.callTo adr)

/-- CNZ adr: call if Z = 0 (R227). -/
def execCnz (adr : Word) (s : State) : Answer := .next (s.callIf .nz adr)

/-- CZ adr: call if Z = 1 (R228). -/
def execCz (adr : Word) (s : State) : Answer := .next (s.callIf .z adr)

/-- CNC adr: call if CY = 0 (R229). -/
def execCnc (adr : Word) (s : State) : Answer := .next (s.callIf .nc adr)

/-- CC adr: call if CY = 1 (R230). -/
def execCc (adr : Word) (s : State) : Answer := .next (s.callIf .c adr)

/-- CPO adr: call if P = 0 (R231). -/
def execCpo (adr : Word) (s : State) : Answer := .next (s.callIf .po adr)

/-- CPE adr: call if P = 1 (R232). -/
def execCpe (adr : Word) (s : State) : Answer := .next (s.callIf .pe adr)

/-- CP adr: call if S = 0 (R233). -/
def execCp (adr : Word) (s : State) : Answer := .next (s.callIf .p adr)

/-- CM adr: call if S = 1 (R234). -/
def execCm (adr : Word) (s : State) : Answer := .next (s.callIf .m adr)

/-- RET (R235). -/
def execRet (s : State) : Answer := .next s.returnTo

/-- RNZ: return if Z = 0 (R236). -/
def execRnz (s : State) : Answer := .next (s.retIf .nz)

/-- RZ: return if Z = 1 (R237). -/
def execRz (s : State) : Answer := .next (s.retIf .z)

/-- RNC: return if CY = 0 (R238). -/
def execRnc (s : State) : Answer := .next (s.retIf .nc)

/-- RC: return if CY = 1 (R239). -/
def execRc (s : State) : Answer := .next (s.retIf .c)

/-- RPO: return if P = 0 (R240). -/
def execRpo (s : State) : Answer := .next (s.retIf .po)

/-- RPE: return if P = 1 (R241). -/
def execRpe (s : State) : Answer := .next (s.retIf .pe)

/-- RP: return if S = 0 (R242). -/
def execRp (s : State) : Answer := .next (s.retIf .p)

/-- RM: return if S = 1 (R243). -/
def execRm (s : State) : Answer := .next (s.retIf .m)

/-- RST n (R244). -/
def execRst (n : BitVec 3) (s : State) : Answer := .next (s.restart n)

/-- IN port (R250). -/
def execInPort (port : Byte) (s : State) : Answer := .next (s.input port)

/-- OUT port (R251). -/
def execOutPort (port : Byte) (s : State) : Answer := .next (s.output port)

/-- NOP (R260): nothing beyond the fetch. -/
def execNop (s : State) : Answer := .next s

/-- HLT (R261): PC stays at the address after it. -/
def execHlt (s : State) : Answer := .next { s with halted := true }

/-- EI (R262): INTE itself becomes 1 when the next instruction has completed (Run.lean). -/
def execEi (s : State) : Answer := .next { s with eiPending := true }

/-- DI (R263): at once. -/
def execDi (s : State) : Answer := .next { s with inte := false, eiPending := false }

end Sys2Proof.Machine
end

