-- ==== Sys2Proof/Machine/Unused.lean ====
section
/-! DEFINITION. The 12 unused codes (30_encoding.md R86, 92 D2), for both values of UNUSED_OPCODE_POLICY. -/

namespace Sys2Proof.Machine

/-- The instruction of the Intel 8080 an unused code behaves as (30_encoding.md R86). -/
inductive Stand8080 where
  | nop
  | jmp
  | ret
  | call
  deriving DecidableEq, Repr

/-- "08h, 10h, 18h, 20h, 28h, 30h, 38h behave as NOP, CBh as JMP adr, D9h as RET, DDh, EDh, FDh as CALL adr"
(30_encoding.md R86). -/
def standsFor : UnusedCode → Stand8080
  | .x08 => .nop
  | .x10 => .nop
  | .x18 => .nop
  | .x20 => .nop
  | .x28 => .nop
  | .x30 => .nop
  | .x38 => .nop
  | .xCB => .jmp
  | .xD9 => .ret
  | .xDD => .call
  | .xED => .call
  | .xFD => .call

/-- The address operand of CBh, DDh, EDh and FDh: the two bytes at PC, which the table's one-byte row has not
fetched; PC moves past them (log 4). -/
def State.lateOperand (s : State) : Word := s.readWord .instructionFetch s.pc

/-- The Intel 8080's behaviour of an unused code, with PC one past the code (30_encoding.md R86). -/
def State.runLike8080 (s : State) (code : UnusedCode) : State :=
  match standsFor code with
  | .nop => s
  | .jmp => s.setPc s.lateOperand
  | .ret => s.returnTo
  | .call => (s.setPc (s.pc + 2)).callTo s.lateOperand

/-- An unused code (30_encoding.md R86): `raise UnusedOpcode(B1)`, or what the Intel 8080 does. -/
def execUnused (code : UnusedCode) (s : State) : Answer :=
  match s.params.unusedOpcodes with
  | .refuse => .refused (.unusedOpcode code.byte)
  | .likeIntel8080 => .next (s.runLike8080 code)

end Sys2Proof.Machine
end

