-- ==== Sys2Proof/Machine/Dispatch.lean ====
section
/-! DEFINITION. The one match on the instruction: each arm is one direct call of the instruction's meaning
(files 40 to 44 of the spec, and 30_encoding.md R86). -/

namespace Sys2Proof.Machine

def exec (i : Instr) (s : State) : Host.Outcome State Fault Refusal :=
  match i with
  | .mviR r d8 => Sys2Proof.Machine.execMviR r d8 s
  | .mviM d8 => Sys2Proof.Machine.execMviM d8 s
  | .lxi p d16 => Sys2Proof.Machine.execLxi p d16 s
  | .lxiSp d16 => Sys2Proof.Machine.execLxiSp d16 s
  | .movRR dst src => Sys2Proof.Machine.execMovRR dst src s
  | .movMR src => Sys2Proof.Machine.execMovMR src s
  | .movRM dst => Sys2Proof.Machine.execMovRM dst s
  | .xchg => Sys2Proof.Machine.execXchg s
  | .sphl => Sys2Proof.Machine.execSphl s
  | .pchl => Sys2Proof.Machine.execPchl s
  | .sta adr => Sys2Proof.Machine.execSta adr s
  | .stax p => Sys2Proof.Machine.execStax p s
  | .shld adr => Sys2Proof.Machine.execShld adr s
  | .lda adr => Sys2Proof.Machine.execLda adr s
  | .ldax p => Sys2Proof.Machine.execLdax p s
  | .lhld adr => Sys2Proof.Machine.execLhld adr s
  | .addR r => Sys2Proof.Machine.execAddR r s
  | .addM => Sys2Proof.Machine.execAddM s
  | .adi d8 => Sys2Proof.Machine.execAdi d8 s
  | .adcR r => Sys2Proof.Machine.execAdcR r s
  | .adcM => Sys2Proof.Machine.execAdcM s
  | .aci d8 => Sys2Proof.Machine.execAci d8 s
  | .subR r => Sys2Proof.Machine.execSubR r s
  | .subM => Sys2Proof.Machine.execSubM s
  | .sui d8 => Sys2Proof.Machine.execSui d8 s
  | .sbbR r => Sys2Proof.Machine.execSbbR r s
  | .sbbM => Sys2Proof.Machine.execSbbM s
  | .sbi d8 => Sys2Proof.Machine.execSbi d8 s
  | .dad rp => Sys2Proof.Machine.execDad rp s
  | .inrR r => Sys2Proof.Machine.execInrR r s
  | .inrM => Sys2Proof.Machine.execInrM s
  | .dcrR r => Sys2Proof.Machine.execDcrR r s
  | .dcrM => Sys2Proof.Machine.execDcrM s
  | .inx rp => Sys2Proof.Machine.execInx rp s
  | .dcx rp => Sys2Proof.Machine.execDcx rp s
  | .daa => Sys2Proof.Machine.execDaa s
  | .anaR r => Sys2Proof.Machine.execAnaR r s
  | .anaM => Sys2Proof.Machine.execAnaM s
  | .ani d8 => Sys2Proof.Machine.execAni d8 s
  | .oraR r => Sys2Proof.Machine.execOraR r s
  | .oraM => Sys2Proof.Machine.execOraM s
  | .ori d8 => Sys2Proof.Machine.execOri d8 s
  | .xraR r => Sys2Proof.Machine.execXraR r s
  | .xraM => Sys2Proof.Machine.execXraM s
  | .xri d8 => Sys2Proof.Machine.execXri d8 s
  | .cma => Sys2Proof.Machine.execCma s
  | .cmpR r => Sys2Proof.Machine.execCmpR r s
  | .cmpM => Sys2Proof.Machine.execCmpM s
  | .cpi d8 => Sys2Proof.Machine.execCpi d8 s
  | .stc => Sys2Proof.Machine.execStc s
  | .cmc => Sys2Proof.Machine.execCmc s
  | .rlc => Sys2Proof.Machine.execRlc s
  | .rrc => Sys2Proof.Machine.execRrc s
  | .ral => Sys2Proof.Machine.execRal s
  | .rar => Sys2Proof.Machine.execRar s
  | .jmp adr => Sys2Proof.Machine.execJmp adr s
  | .jnz adr => Sys2Proof.Machine.execJnz adr s
  | .jz adr => Sys2Proof.Machine.execJz adr s
  | .jnc adr => Sys2Proof.Machine.execJnc adr s
  | .jc adr => Sys2Proof.Machine.execJc adr s
  | .jpo adr => Sys2Proof.Machine.execJpo adr s
  | .jpe adr => Sys2Proof.Machine.execJpe adr s
  | .jp adr => Sys2Proof.Machine.execJp adr s
  | .jm adr => Sys2Proof.Machine.execJm adr s
  | .push p => Sys2Proof.Machine.execPush p s
  | .pushPsw => Sys2Proof.Machine.execPushPsw s
  | .pop p => Sys2Proof.Machine.execPop p s
  | .popPsw => Sys2Proof.Machine.execPopPsw s
  | .xthl => Sys2Proof.Machine.execXthl s
  | .call adr => Sys2Proof.Machine.execCall adr s
  | .cnz adr => Sys2Proof.Machine.execCnz adr s
  | .cz adr => Sys2Proof.Machine.execCz adr s
  | .cnc adr => Sys2Proof.Machine.execCnc adr s
  | .cc adr => Sys2Proof.Machine.execCc adr s
  | .cpo adr => Sys2Proof.Machine.execCpo adr s
  | .cpe adr => Sys2Proof.Machine.execCpe adr s
  | .cp adr => Sys2Proof.Machine.execCp adr s
  | .cm adr => Sys2Proof.Machine.execCm adr s
  | .ret => Sys2Proof.Machine.execRet s
  | .rnz => Sys2Proof.Machine.execRnz s
  | .rz => Sys2Proof.Machine.execRz s
  | .rnc => Sys2Proof.Machine.execRnc s
  | .rc => Sys2Proof.Machine.execRc s
  | .rpo => Sys2Proof.Machine.execRpo s
  | .rpe => Sys2Proof.Machine.execRpe s
  | .rp => Sys2Proof.Machine.execRp s
  | .rm => Sys2Proof.Machine.execRm s
  | .rst n => Sys2Proof.Machine.execRst n s
  | .inPort port => Sys2Proof.Machine.execInPort port s
  | .outPort port => Sys2Proof.Machine.execOutPort port s
  | .nop => Sys2Proof.Machine.execNop s
  | .hlt => Sys2Proof.Machine.execHlt s
  | .ei => Sys2Proof.Machine.execEi s
  | .di => Sys2Proof.Machine.execDi s
  | .unused code => Sys2Proof.Machine.execUnused code s

end Sys2Proof.Machine
end

