-- ==== Sys2Proof/Machine/Timing.lean ====
section
/-! DEFINITION. Timing (70_reset_and_hazards.md R310 to R313, informative): the machine cycles and clock periods of
every instruction, and its bus cycles in the order of 20_memory.md R43. Nothing architectural depends on it. -/

namespace Sys2Proof.Machine

/-- The cost of an instruction: machine cycles and clock periods (70_reset_and_hazards.md R310). -/
structure Cost where
  cycles : Nat
  clocks : Nat
  deriving DecidableEq, Repr

/-- A conditional jump: 3 cycles and 10 clocks, or what JCC_NOT_TAKEN_CLOCKS says when it is not taken
(70_reset_and_hazards.md R312). -/
def jumpCost (taken : Bool) (rule : JccNotTaken) : Cost :=
  match taken, rule with
  | true, _ => ⟨3, 10⟩
  | false, .clocks10 => ⟨3, 10⟩
  | false, .clocks5 => ⟨1, 5⟩

/-- A conditional call (70_reset_and_hazards.md R311). -/
def callCost (taken : Bool) : Cost := if taken then ⟨5, 17⟩ else ⟨3, 11⟩

/-- A conditional return (70_reset_and_hazards.md R311). -/
def retCost (taken : Bool) : Cost := if taken then ⟨3, 11⟩ else ⟨1, 5⟩

/-- An unused code that runs costs what the instruction it stands for costs; the table gives none (log 4). -/
def standCost : Stand8080 → Cost
  | .nop => ⟨1, 4⟩
  | .jmp => ⟨3, 10⟩
  | .ret => ⟨3, 10⟩
  | .call => ⟨5, 17⟩

/-- The tables of 70_reset_and_hazards.md R310 and R311, with the flags the instruction tests. -/
def cost (i : Instr) (f : Flags) (rule : JccNotTaken) : Cost :=
  match i with
  | .mviR _ _ => ⟨2, 7⟩
  | .mviM _ => ⟨3, 10⟩
  | .lxi _ _ => ⟨3, 10⟩
  | .lxiSp _ => ⟨3, 10⟩
  | .movRR _ _ => ⟨1, 5⟩
  | .movMR _ => ⟨2, 7⟩
  | .movRM _ => ⟨2, 7⟩
  | .xchg => ⟨1, 4⟩
  | .sphl => ⟨1, 5⟩
  | .pchl => ⟨1, 5⟩
  | .sta _ => ⟨4, 13⟩
  | .stax _ => ⟨2, 7⟩
  | .shld _ => ⟨5, 16⟩
  | .lda _ => ⟨4, 13⟩
  | .ldax _ => ⟨2, 7⟩
  | .lhld _ => ⟨5, 16⟩
  | .addR _ => ⟨1, 4⟩
  | .addM => ⟨2, 7⟩
  | .adi _ => ⟨2, 7⟩
  | .adcR _ => ⟨1, 4⟩
  | .adcM => ⟨2, 7⟩
  | .aci _ => ⟨2, 7⟩
  | .subR _ => ⟨1, 4⟩
  | .subM => ⟨2, 7⟩
  | .sui _ => ⟨2, 7⟩
  | .sbbR _ => ⟨1, 4⟩
  | .sbbM => ⟨2, 7⟩
  | .sbi _ => ⟨2, 7⟩
  | .dad _ => ⟨3, 10⟩
  | .inrR _ => ⟨1, 5⟩
  | .inrM => ⟨3, 10⟩
  | .dcrR _ => ⟨1, 5⟩
  | .dcrM => ⟨3, 10⟩
  | .inx _ => ⟨1, 5⟩
  | .dcx _ => ⟨1, 5⟩
  | .daa => ⟨1, 4⟩
  | .anaR _ => ⟨1, 4⟩
  | .anaM => ⟨2, 7⟩
  | .ani _ => ⟨2, 7⟩
  | .oraR _ => ⟨1, 4⟩
  | .oraM => ⟨2, 7⟩
  | .ori _ => ⟨2, 7⟩
  | .xraR _ => ⟨1, 4⟩
  | .xraM => ⟨2, 7⟩
  | .xri _ => ⟨2, 7⟩
  | .cma => ⟨1, 4⟩
  | .cmpR _ => ⟨1, 4⟩
  | .cmpM => ⟨2, 7⟩
  | .cpi _ => ⟨2, 7⟩
  | .stc => ⟨1, 4⟩
  | .cmc => ⟨1, 4⟩
  | .rlc => ⟨1, 4⟩
  | .rrc => ⟨1, 4⟩
  | .ral => ⟨1, 4⟩
  | .rar => ⟨1, 4⟩
  | .jmp _ => ⟨3, 10⟩
  | .jnz _ => jumpCost (f.holds .nz) rule
  | .jz _ => jumpCost (f.holds .z) rule
  | .jnc _ => jumpCost (f.holds .nc) rule
  | .jc _ => jumpCost (f.holds .c) rule
  | .jpo _ => jumpCost (f.holds .po) rule
  | .jpe _ => jumpCost (f.holds .pe) rule
  | .jp _ => jumpCost (f.holds .p) rule
  | .jm _ => jumpCost (f.holds .m) rule
  | .push _ => ⟨3, 11⟩
  | .pushPsw => ⟨3, 11⟩
  | .pop _ => ⟨3, 10⟩
  | .popPsw => ⟨3, 10⟩
  | .xthl => ⟨5, 18⟩
  | .call _ => ⟨5, 17⟩
  | .cnz _ => callCost (f.holds .nz)
  | .cz _ => callCost (f.holds .z)
  | .cnc _ => callCost (f.holds .nc)
  | .cc _ => callCost (f.holds .c)
  | .cpo _ => callCost (f.holds .po)
  | .cpe _ => callCost (f.holds .pe)
  | .cp _ => callCost (f.holds .p)
  | .cm _ => callCost (f.holds .m)
  | .ret => ⟨3, 10⟩
  | .rnz => retCost (f.holds .nz)
  | .rz => retCost (f.holds .z)
  | .rnc => retCost (f.holds .nc)
  | .rc => retCost (f.holds .c)
  | .rpo => retCost (f.holds .po)
  | .rpe => retCost (f.holds .pe)
  | .rp => retCost (f.holds .p)
  | .rm => retCost (f.holds .m)
  | .rst _ => ⟨3, 11⟩
  | .inPort _ => ⟨3, 10⟩
  | .outPort _ => ⟨3, 10⟩
  | .nop => ⟨1, 4⟩
  | .hlt => ⟨1, 7⟩
  | .ei => ⟨1, 4⟩
  | .di => ⟨1, 4⟩
  | .unused code => standCost (standsFor code)

/-! ### Bus cycles (20_memory.md R43, R60) -/

/-- One byte access: its kind and its address; an I/O access has its port number there. -/
structure BusCycle where
  kind : CycleKind
  addr : Word
  deriving DecidableEq, Repr

/-- A 16-bit item pushed: the high byte at SP-1, then the low byte at SP-2. -/
def pushCycles (s : State) : List BusCycle := [⟨.stackWrite, s.sp - 1⟩, ⟨.stackWrite, s.sp - 2⟩]

/-- A 16-bit item popped: the low byte at SP, then the high byte at SP+1. -/
def popCycles (s : State) : List BusCycle := [⟨.stackRead, s.sp⟩, ⟨.stackRead, s.sp + 1⟩]

/-- The accesses after its first byte of an unused code that runs, with PC one past the code (log 4). -/
def standCycles (s : State) : Stand8080 → List BusCycle
  | .nop => []
  | .jmp => [⟨.instructionFetch, s.pc⟩, ⟨.instructionFetch, s.pc + 1⟩]
  | .ret => popCycles s
  | .call => [⟨.instructionFetch, s.pc⟩, ⟨.instructionFetch, s.pc + 1⟩] ++ pushCycles s

/-- The byte accesses of an instruction after its fetch, in order, with PC at `next` (20_memory.md R43). -/
def dataCycles (i : Instr) (s : State) : List BusCycle :=
  match i with
  | .mviR _ _ => []
  | .mviM _ => [⟨.memWrite, s.pair .hl⟩]
  | .lxi _ _ => []
  | .lxiSp _ => []
  | .movRR _ _ => []
  | .movMR _ => [⟨.memWrite, s.pair .hl⟩]
  | .movRM _ => [⟨.memRead, s.pair .hl⟩]
  | .xchg => []
  | .sphl => []
  | .pchl => []
  | .sta adr => [⟨.memWrite, adr⟩]
  | .stax p => [⟨.memWrite, s.pair p⟩]
  | .shld adr => [⟨.memWrite, adr⟩, ⟨.memWrite, adr + 1⟩]
  | .lda adr => [⟨.memRead, adr⟩]
  | .ldax p => [⟨.memRead, s.pair p⟩]
  | .lhld adr => [⟨.memRead, adr⟩, ⟨.memRead, adr + 1⟩]
  | .addR _ => []
  | .addM => [⟨.memRead, s.pair .hl⟩]
  | .adi _ => []
  | .adcR _ => []
  | .adcM => [⟨.memRead, s.pair .hl⟩]
  | .aci _ => []
  | .subR _ => []
  | .subM => [⟨.memRead, s.pair .hl⟩]
  | .sui _ => []
  | .sbbR _ => []
  | .sbbM => [⟨.memRead, s.pair .hl⟩]
  | .sbi _ => []
  | .dad _ => []
  | .inrR _ => []
  | .inrM => [⟨.memRead, s.pair .hl⟩, ⟨.memWrite, s.pair .hl⟩]
  | .dcrR _ => []
  | .dcrM => [⟨.memRead, s.pair .hl⟩, ⟨.memWrite, s.pair .hl⟩]
  | .inx _ => []
  | .dcx _ => []
  | .daa => []
  | .anaR _ => []
  | .anaM => [⟨.memRead, s.pair .hl⟩]
  | .ani _ => []
  | .oraR _ => []
  | .oraM => [⟨.memRead, s.pair .hl⟩]
  | .ori _ => []
  | .xraR _ => []
  | .xraM => [⟨.memRead, s.pair .hl⟩]
  | .xri _ => []
  | .cma => []
  | .cmpR _ => []
  | .cmpM => [⟨.memRead, s.pair .hl⟩]
  | .cpi _ => []
  | .stc => []
  | .cmc => []
  | .rlc => []
  | .rrc => []
  | .ral => []
  | .rar => []
  | .jmp _ => []
  | .jnz _ => []
  | .jz _ => []
  | .jnc _ => []
  | .jc _ => []
  | .jpo _ => []
  | .jpe _ => []
  | .jp _ => []
  | .jm _ => []
  | .push _ => pushCycles s
  | .pushPsw => pushCycles s
  | .pop _ => popCycles s
  | .popPsw => popCycles s
  | .xthl => [⟨.stackRead, s.sp⟩, ⟨.stackRead, s.sp + 1⟩, ⟨.stackWrite, s.sp + 1⟩, ⟨.stackWrite, s.sp⟩]
  | .call _ => pushCycles s
  | .cnz _ => if s.flags.holds .nz then pushCycles s else []
  | .cz _ => if s.flags.holds .z then pushCycles s else []
  | .cnc _ => if s.flags.holds .nc then pushCycles s else []
  | .cc _ => if s.flags.holds .c then pushCycles s else []
  | .cpo _ => if s.flags.holds .po then pushCycles s else []
  | .cpe _ => if s.flags.holds .pe then pushCycles s else []
  | .cp _ => if s.flags.holds .p then pushCycles s else []
  | .cm _ => if s.flags.holds .m then pushCycles s else []
  | .ret => popCycles s
  | .rnz => if s.flags.holds .nz then popCycles s else []
  | .rz => if s.flags.holds .z then popCycles s else []
  | .rnc => if s.flags.holds .nc then popCycles s else []
  | .rc => if s.flags.holds .c then popCycles s else []
  | .rpo => if s.flags.holds .po then popCycles s else []
  | .rpe => if s.flags.holds .pe then popCycles s else []
  | .rp => if s.flags.holds .p then popCycles s else []
  | .rm => if s.flags.holds .m then popCycles s else []
  | .rst _ => pushCycles s
  | .inPort port => [⟨.inputRead, port.setWidth 16⟩]
  | .outPort port => [⟨.outputWrite, port.setWidth 16⟩]
  | .nop => []
  | .hlt => []
  | .ei => []
  | .di => []
  | .unused code => standCycles s (standsFor code)

/-- The fetch of `len` bytes from `pc0` on, each address modulo 65536 (20_memory.md R43). -/
def fetchCycles (pc0 : Word) : Nat → List BusCycle
  | 0 => []
  | len + 1 => ⟨.instructionFetch, pc0⟩ :: fetchCycles (pc0 + 1) len

/-- The cycles of an accepted interrupt: the acknowledge cycle in place of the fetch, by its kind during halt or not
(60_exceptions.md R274), then the push of RST n. The address shown for an acknowledge cycle is PC (log 12). -/
def acceptCycles (s : State) : List BusCycle :=
  ⟨if s.halted then .interruptAckInHalt else .interruptAck, s.pc⟩ :: pushCycles s

/-- The cycle of a step that idles in the halt state (44_stack_io_control.md R261, 20_memory.md R60; log 12). -/
def idleCycles (s : State) : List BusCycle := [⟨.haltAck, s.pc⟩]

/-- The access writes memory. -/
def BusCycle.writesMemory (x : BusCycle) : Bool := decide (x.kind = .memWrite) || decide (x.kind = .stackWrite)

/-- The addresses an instruction stores to (20_memory.md R43). -/
def storeAddresses (i : Instr) (s : State) : List Word :=
  ((dataCycles i s).filter BusCycle.writesMemory).map BusCycle.addr

end Sys2Proof.Machine
end

