-- ==== Sys2Proof/Machine/Fetch.lean ====
section
/-! DEFINITION. Fetching and retiring an instruction (30_encoding.md R81, 60_exceptions.md R273). -/

namespace Sys2Proof.Machine

/-- The byte of the instruction at `pc0 + k`, the address modulo 65536 (10_state.md R17, 30_encoding.md R81). -/
def State.codeByte (s : State) (k : Word) : Byte := s.readByte .instructionFetch (s.pc + k)

/-- The instruction at PC and its length: B1 alone decides how many bytes are read (30_encoding.md R81). -/
def State.fetch (s : State) : Instr × Nat :=
  match decodeForm (s.codeByte 0) with
  | .one i => (i, 1)
  | .two build => (build (s.codeByte 1), 2)
  | .three build => (build (pairUp (s.codeByte 2) (s.codeByte 1)), 3)

/-- `PC <- (pc0 + n) mod 65536` (30_encoding.md R81) and `ei_pending <- 0` (60_exceptions.md R273), before the
instruction's body runs. -/
def State.advance (s : State) (len : Nat) : State :=
  { s with pc := s.pc + BitVec.ofNat 16 len, eiPending := false }

/-- "if p = 1 and the instruction just run was not DI: INTE <- 1", with p the ei_pending before the instruction
(60_exceptions.md R273). -/
def State.enableAfter (s : State) (p : Bool) (i : Instr) : State :=
  { s with inte := if p = true ∧ i ≠ .di then true else s.inte }

/-- One more instruction run, and what it cost (70_reset_and_hazards.md R310). -/
def State.countInstr (s : State) (c : Cost) : State :=
  { s with instrCount := s.instrCount + 1, cycles := s.cycles + c.cycles, clocks := s.clocks + c.clocks }

/-- What the step does after the body of instruction `i`, which started at state `before` and left state `after`. -/
def retire (before after : State) (i : Instr) : State :=
  (after.enableAfter before.eiPending i).countInstr (cost i before.flags before.params.jccNotTaken)

end Sys2Proof.Machine
end

