-- ==== Sys2Proof/Machine/Run.lean ====
section
/-! DEFINITION. The step of the whole machine (60_exceptions.md R273) around exec: the reset line, the interrupt, the
halt state, and one instruction. -/

namespace Sys2Proof.Machine

/-- "run one instruction" with the ei_pending bookkeeping around it (30_encoding.md R81, 60_exceptions.md R273). -/
def State.runInstr (s : State) : Answer :=
  match exec s.fetch.1 (s.advance s.fetch.2) with
  | .next t => .next (retire s t s.fetch.1)
  | .fault r => .fault r
  | .refused r => .refused r

/-- A halted processor idles, nothing changes; another runs one instruction (60_exceptions.md R273, R282). -/
def State.idleOrRun (s : State) : Answer := if s.halted then .next s else s.runInstr

/-- A request is accepted iff INTE = 1 and ei_pending = 0 (60_exceptions.md R273). -/
def State.accepts (s : State) : Bool := s.inte && !s.eiPending

/-- One step with the lines as the environment drives them; reset overrides everything (60_exceptions.md R273, R277,
log 9). -/
def State.stepWith (s : State) (l : Sample) : Answer :=
  if l.reset then .next s.pulledReset
  else
    match l.int with
    | some n => if s.accepts then .next (s.acceptInterrupt n) else s.idleOrRun
    | none => s.idleOrRun

/-- One step: the lines are sampled once (60_exceptions.md R273), and with no sample left both are quiet (log 8). -/
def State.stepSampled (s : State) : Answer :=
  match s.lines with
  | [] => s.stepWith Sample.quiet
  | l :: rest => ({ s with lines := rest } : State).stepWith l

/-- A byte laid at an address whatever stands there, so that the fetch reads it: into the cell, and, where the
address is absent, behind a one-byte ROM region. -/
def State.placeByte (s : State) (a : Word) (v : Byte) : State :=
  let laid : State := { s with mem := s.mem.put a.toNat v }
  match s.kindAt a with
  | .absent => { laid with params := { laid.params with memMap := ⟨a.toNat, 1, .rom⟩ :: laid.params.memMap } }
  | _ => laid

/-- The next sample of the lines made quiet; the later ones stay. -/
def quietNext : List Sample → List Sample
  | [] => []
  | _ :: rest => Sample.quiet :: rest

/-- The three bytes of an instruction word laid from PC on, the machine not halted and the next sample quiet. -/
def State.placeInstr (s : State) (nbits w : Nat) : State :=
  let bytes := tableBytes nbits w
  let laid := ((s.placeByte s.pc (bytes.getD 0 0)).placeByte (s.pc + 1) (bytes.getD 1 0)).placeByte (s.pc + 2)
    (bytes.getD 2 0)
  { laid with halted := false, lines := quietNext s.lines }

end Sys2Proof.Machine
end

