-- ==== Sys2Proof/Machine/Step.lean ====
section
/-! DEFINITION. One step of the machine, and the placing of an instruction where the next step fetches it. -/

namespace Sys2Proof.Machine

/-- One step of the whole machine (60_exceptions.md R273). -/
def step (s : State) : Host.Outcome State Fault Refusal := s.stepSampled

/-- The state with an instruction word, numbered as spec/opcode_table.json numbers it, where the next step fetches:
at PC, which the load from outside the machine stands for (70_reset_and_hazards.md R302, log 10). -/
def State.withFetchWord (s : State) (nbits w : Nat) : State := s.placeInstr nbits w

end Sys2Proof.Machine
end

