-- ==== Sys2Proof/Safety.lean ====
section
/-! DEFINITION. How a run ends (60_exceptions.md R283, R284) and what counts as a safe run, in the words the claims
use. The hardware checks nothing (R270), so the one way a run can go wrong is the model-level outcome
UnusedOpcode(B1) (30_encoding.md R86). -/

namespace Sys2Proof.Machine

/-- Some sample still to come raises an interrupt request. -/
def requestComes (lines : List Sample) : Bool := lines.any (·.int.isSome)

/-- The halt state in which a run ends: "`halted = 1` and no interrupt will arrive", in particular whenever no sample to
come requests one or INTE = 0 (60_exceptions.md R284; only a reset could still leave it, R283, 93 U12). A request that
comes at or after a reset counts as one that will arrive (DEDUCED, log 17). -/
def State.haltedForGood (s : State) : Bool :=
  s.halted && !(s.accepts && requestComes s.lines)

/-- The outcomes of a run (60_exceptions.md R284). -/
inductive RunEnd where
  /-- halted = 1 and no interrupt will arrive: the normal end; the result is the final state. -/
  | halted (s : State)
  /-- An unused code was fetched; the state is the one at the start of that step (60_exceptions.md R273). -/
  | unusedOpcode (b1 : Byte) (s : State)
  /-- The host's step budget ran out. -/
  | outOfSteps (s : State)
  /-- A step ended in another way: a fault, or a refusal that is not UnusedOpcode. -/
  | other
  deriving DecidableEq, Repr

/-- The end of a run of at most the given number of steps (60_exceptions.md R284). -/
def runEnd : Nat → State → RunEnd
  | 0, s => if s.haltedForGood then .halted s else .outOfSteps s
  | k + 1, s =>
    if s.haltedForGood then .halted s
    else
      match step s with
      | .next t => runEnd k t
      | .refused (.unusedOpcode b1) => .unusedOpcode b1 s
      | .refused _ => .other
      | .fault _ => .other

/-- A run of the given number of steps is safe: no step of it is refused. -/
def safeFor : Nat → State → Bool
  | 0, _ => true
  | k + 1, s =>
    match step s with
    | .next t => safeFor k t
    | .fault _ => false
    | .refused _ => false

end Sys2Proof.Machine
end

