-- ==== Sys2Proof/Certificates/Slice0/Obligations.lean ====
section
/-! DEFINITION. The statements for the provers, in the words of the spec's rules: first the words they share
(`Sys2Proof.Claims`), written from the spec and not from the model's own functions, then one definition for each
obligation. `exec i s` is the body of an instruction, which starts with PC at `next` (30_encoding.md R81), so
"PC unchanged" there means that PC is the address after the instruction. -/

namespace Sys2Proof.Claims

open Sys2Proof.Machine

/-! ### Codes (10_state.md R12, R13, R25) and encodings -/

/-- The operand code of a register (10_state.md R12). -/
def regCode : Reg8 → Nat
  | .b => 0
  | .c => 1
  | .d => 2
  | .e => 3
  | .h => 4
  | .l => 5
  | .a => 7

/-- The code of a pair (10_state.md R13). -/
def pairCode : Pair → Nat
  | .bc => 0
  | .de => 1
  | .hl => 2

/-- The code of a 16-bit operand (10_state.md R13). -/
def rpCode : Rp → Nat
  | .bc => 0
  | .de => 1
  | .hl => 2
  | .sp => 3

/-- The condition code (10_state.md R25). -/
def condCode : Cond → Nat
  | .nz => 0
  | .z => 1
  | .nc => 2
  | .c => 3
  | .po => 4
  | .pe => 5
  | .p => 6
  | .m => 7

/-- When a condition is true (10_state.md R25). -/
def Holds : Cond → Flags → Prop
  | .nz, f => f.z = false
  | .z, f => f.z = true
  | .nc, f => f.cy = false
  | .c, f => f.cy = true
  | .po, f => f.p = false
  | .pe, f => f.p = true
  | .p, f => f.s = false
  | .m, f => f.s = true

/-- A byte by its number. -/
def byte (n : Nat) : Byte := BitVec.ofNat 8 n

/-- A one-byte instruction has the code `b1` and no other, whatever follows it. -/
def Words1 (i : Instr) (b1 : Nat) : Prop :=
  (∀ rest, decode (byte b1 :: rest) = .ok (i, rest)) ∧ encode i = [byte b1]

/-- A two-byte instruction: the code `b1`, then B2. -/
def Words2 (build : Byte → Instr) (b1 : Nat) : Prop :=
  ∀ b2 : Byte,
    (∀ rest, decode (byte b1 :: b2 :: rest) = .ok (build b2, rest)) ∧ encode (build b2) = [byte b1, b2]

/-- A three-byte instruction: the code `b1`, then B2, the low byte of the operand, then B3, the high byte. -/
def Words3 (build : Word → Instr) (b1 : Nat) : Prop :=
  ∀ b2 b3 : Byte,
    (∀ rest, decode (byte b1 :: b2 :: b3 :: rest) = .ok (build (b3 ++ b2), rest)) ∧
      encode (build (b3 ++ b2)) = [byte b1, b2, b3]

/-- An instruction takes these machine cycles and clock periods, whatever the flags. -/
def Takes (i : Instr) (cycles clocks : Nat) : Prop := ∀ f rule, cost i f rule = ⟨cycles, clocks⟩

/-! ### What changes and what does not -/

/-- The value of a pair: its first register is the high byte (10_state.md R13). -/
def pairOf (s : State) : Pair → Word
  | .bc => s.reg .b ++ s.reg .c
  | .de => s.reg .d ++ s.reg .e
  | .hl => s.reg .h ++ s.reg .l

/-- The value of a 16-bit operand (10_state.md R13). -/
def rpOf (s : State) : Rp → Word
  | .bc => pairOf s .bc
  | .de => pairOf s .de
  | .hl => pairOf s .hl
  | .sp => s.sp

/-- The two registers of a pair. -/
def pairRegs : Pair → List Reg8
  | .bc => [.b, .c]
  | .de => [.d, .e]
  | .hl => [.h, .l]

/-- hi8 (00_scope.md R5). -/
def high (w : Word) : Byte := w.extractLsb' 8 8

/-- lo8 (00_scope.md R5). -/
def low (w : Word) : Byte := w.extractLsb' 0 8

/-- Every register but the listed ones is as before. -/
def SameRegs (s t : State) (but : List Reg8) : Prop := ∀ r, r ∉ but → t.reg r = s.reg r

/-- Every byte of memory but those at the listed addresses reads as before, for every kind of access. -/
def SameMemory (s t : State) (but : List Word) : Prop := ∀ a, a ∉ but → ∀ k, t.readByte k a = s.readByte k a

/-- INTE, ei_pending and halted are as before. -/
def SameControl (s t : State) : Prop := t.inte = s.inte ∧ t.eiPending = s.eiPending ∧ t.halted = s.halted

/-- in_count and io_out are as before. -/
def SameIo (s t : State) : Prop := t.inCount = s.inCount ∧ t.ioOut = s.ioOut

/-- The parameters, the environment's part and the counters are as before. All of these are the model's own fields: the
parameters log 3, the lines log 8, the fixed answers log 7, instrCount log 6, the cycle and clock counters log 12. -/
def SameRun (s t : State) : Prop :=
  t.params = s.params ∧ t.lines = s.lines ∧ t.ioFixed = s.ioFixed ∧ t.instrCount = s.instrCount ∧
    t.cycles = s.cycles ∧ t.clocks = s.clocks

/-- The frame of an instruction but for SP, PC and the flags: nothing changes besides the listed registers and the
bytes at the listed addresses. It takes in the model's own fields (`SameRun`; log 3, 6, 7, 8, 12). -/
structure Frame (s t : State) (regs : List Reg8) (stored : List Word) : Prop where
  sameRegs : SameRegs s t regs
  sameMemory : SameMemory s t stored
  sameControl : SameControl s t
  sameIo : SameIo s t
  sameRun : SameRun s t

/-- A byte stored at an address: where there is RAM it is what every later read gives; ROM and absent cells ignore
the write, which is the spec's own choice (92 D10, 93 U16, 20_memory.md R46) in the form of log 6. -/
def Stored (s t : State) (a : Word) (v : Byte) : Prop :=
  (s.kindAt a = .ram → ∀ k, t.readByte k a = v) ∧
    (s.kindAt a ≠ .ram → ∀ k, t.readByte k a = s.readByte k a)

/-- A 16-bit item pushed (20_memory.md R58): the high byte at SP-1, the low byte at SP-2, SP lowered by 2. The byte
order is the spec's own choice (92 D8; log 13), and so is what ROM and absent cells do (`Stored`). -/
def Pushed (s t : State) (hi lo : Byte) : Prop :=
  Stored s t (s.sp - 1) hi ∧ Stored s t (s.sp - 2) lo ∧ t.sp = s.sp - 2

/-- The low byte of the item at the top of the stack (20_memory.md R58). -/
def topLow (s : State) : Byte := s.readByte .stackRead s.sp

/-- The high byte of the item at the top of the stack (20_memory.md R58). -/
def topHigh (s : State) : Byte := s.readByte .stackRead (s.sp + 1)

/-! ### Results and flags -/

/-- The number of 1 bits of a byte. -/
def ones (v : Byte) : Nat := ∑ k ∈ Finset.range 8, v.toNat / 2 ^ k % 2

/-- Z, S and P are those of the result (10_state.md R20). -/
def ResultFlags (f : Flags) (v : Byte) : Prop :=
  (f.z = true ↔ v.toNat = 0) ∧ (f.s = true ↔ 128 ≤ v.toNat) ∧ (f.p = true ↔ ones v % 2 = 0)

/-- add8(a, x, cin) (41_arithmetic.md R131). -/
def IsSum (a x : Byte) (cin : Bool) (r : Byte) (f : Flags) : Prop :=
  r.toNat = (a.toNat + x.toNat + cin.toNat) % 256 ∧ ResultFlags f r ∧
    (f.cy = true ↔ 255 < a.toNat + x.toNat + cin.toNat) ∧
    (f.ac = true ↔ 15 < a.toNat % 16 + x.toNat % 16 + cin.toNat)

/-- sub8(a, x, bin) (41_arithmetic.md R132). -/
def IsDifference (a x : Byte) (bin : Bool) (r : Byte) (f : Flags) : Prop :=
  (r.toNat : Int) = ((a.toNat : Int) - x.toNat - bin.toNat) % 256 ∧ ResultFlags f r ∧
    (f.cy = true ↔ a.toNat < x.toNat + bin.toNat) ∧
    (f.ac = true ↔ 15 < a.toNat % 16 + (15 - x.toNat % 16) + (1 - bin.toNat))

/-- A bitwise result: bit k of it is `op` of bit k of each operand, with Z, S, P of the result and CY = 0
(42_logical.md R170, R171). -/
def IsBitwise (op : Bool → Bool → Bool) (a x : Byte) (r : Byte) (f : Flags) : Prop :=
  (∀ k, k < 8 → r.getLsbD k = op (a.getLsbD k) (x.getLsbD k)) ∧ ResultFlags f r ∧ f.cy = false

/-- Only CY changes among the flags. -/
def OnlyCarry (f g : Flags) (cy : Bool) : Prop := g.z = f.z ∧ g.s = f.s ∧ g.p = f.p ∧ g.ac = f.ac ∧ g.cy = cy

/-- The byte the M operand reads: the cell at HL (10_state.md R12). -/
def cellM (s : State) : Byte := s.readByte .memRead (pairOf s .hl)

/-- The instruction runs, gives A and the flags what `result` says, and changes nothing else. -/
def AccumulatorGets (i : Instr) (s : State) (result : Byte → Flags → Prop) : Prop :=
  ∃ t, exec i s = .next t ∧ result (t.reg .a) t.flags ∧ t.sp = s.sp ∧ t.pc = s.pc ∧ Frame s t [.a] []

/-- The instruction runs, changes only the flags, and they are those of A - x (42_logical.md R182). -/
def ComparesWith (i : Instr) (s : State) (x : Byte) : Prop :=
  ∃ t r, exec i s = .next t ∧ IsDifference (s.reg .a) x false r t.flags ∧ t.sp = s.sp ∧ t.pc = s.pc ∧ Frame s t [] []

/-- The instruction runs, gives one register a byte, and changes nothing else. -/
def LoadsByte (i : Instr) (s : State) (r : Reg8) (v : Byte) : Prop :=
  ∃ t, exec i s = .next t ∧ t.reg r = v ∧ t.flags = s.flags ∧ t.sp = s.sp ∧ t.pc = s.pc ∧ Frame s t [r] []

/-- The instruction runs, stores one byte, and changes nothing else. -/
def StoresByte (i : Instr) (s : State) (a : Word) (v : Byte) : Prop :=
  ∃ t, exec i s = .next t ∧ Stored s t a v ∧ t.flags = s.flags ∧ t.sp = s.sp ∧ t.pc = s.pc ∧ Frame s t [] [a]

/-- A rotate: A gets `v`, CY gets `cy`, and nothing else changes. -/
def Rotates (i : Instr) (s : State) (v : Nat) (cy : Bool) : Prop :=
  ∃ t, exec i s = .next t ∧ (t.reg .a).toNat = v ∧ OnlyCarry s.flags t.flags cy ∧ t.sp = s.sp ∧ t.pc = s.pc ∧
    Frame s t [.a] []

/-- Bit k of a byte, as a number. -/
def bitOf (v : Byte) (k : Nat) : Nat := v.toNat / 2 ^ k % 2

/-- The flag byte of the PSW (10_state.md R24). -/
def IsFlagByte (f : Flags) (v : Byte) : Prop :=
  v.getLsbD 7 = f.s ∧ v.getLsbD 6 = f.z ∧ v.getLsbD 5 = false ∧ v.getLsbD 4 = f.ac ∧ v.getLsbD 3 = false ∧
    v.getLsbD 2 = f.p ∧ v.getLsbD 1 = true ∧ v.getLsbD 0 = f.cy

/-- The flags taken from a flag byte, its bits 5, 3 and 1 ignored (10_state.md R24). -/
def TakesFlagByte (f : Flags) (v : Byte) : Prop :=
  f.s = v.getLsbD 7 ∧ f.z = v.getLsbD 6 ∧ f.ac = v.getLsbD 4 ∧ f.p = v.getLsbD 2 ∧ f.cy = v.getLsbD 0

/-! ### Families with a condition -/

/-- The conditional jump that tests a condition (43_jumps.md R202 to R209). -/
def jumpOn : Cond → Word → Instr
  | .nz => .jnz
  | .z => .jz
  | .nc => .jnc
  | .c => .jc
  | .po => .jpo
  | .pe => .jpe
  | .p => .jp
  | .m => .jm

/-- The conditional call that tests a condition (44_stack_io_control.md R227 to R234). -/
def callOn : Cond → Word → Instr
  | .nz => .cnz
  | .z => .cz
  | .nc => .cnc
  | .c => .cc
  | .po => .cpo
  | .pe => .cpe
  | .p => .cp
  | .m => .cm

/-- The conditional return that tests a condition (44_stack_io_control.md R236 to R243). -/
def returnOn : Cond → Instr
  | .nz => .rnz
  | .z => .rz
  | .nc => .rnc
  | .c => .rc
  | .po => .rpo
  | .pe => .rpe
  | .p => .rp
  | .m => .rm

/-- The call runs: the address after it is pushed, PC is `target`, and nothing else changes. -/
def CallsTo (i : Instr) (s : State) (target : Word) : Prop :=
  ∃ t, exec i s = .next t ∧ Pushed s t (high s.pc) (low s.pc) ∧ t.pc = target ∧ t.flags = s.flags ∧
    Frame s t [] [s.sp - 1, s.sp - 2]

/-- The return runs: PC is the item popped, and nothing but SP changes besides. -/
def Returns (i : Instr) (s : State) : Prop :=
  ∃ t, exec i s = .next t ∧ t.pc = topHigh s ++ topLow s ∧ t.sp = s.sp + 2 ∧ t.flags = s.flags ∧ Frame s t [] []

/-- The instruction runs and changes nothing: PC stays at the address after it. -/
def FallsThrough (i : Instr) (s : State) : Prop := exec i s = .next s

/-! ### Runs of instructions and of steps -/

/-- The instructions one after another, each from the state the one before left. -/
def execAll : List Instr → State → Option State
  | [], s => some s
  | i :: rest, s =>
    match exec i s with
    | .next t => execAll rest t
    | .fault _ => none
    | .refused _ => none

/-- So many steps of the machine. -/
def stepN : Nat → State → Option State
  | 0, s => some s
  | k + 1, s =>
    match step s with
    | .next t => stepN k t
    | .fault _ => none
    | .refused _ => none

/-- The program for one byte pair (41_arithmetic.md R162): load A, then the first or the following operation, then
what `after` lists. -/
def byteProgram (op : Byte → Instr) (after : List Instr) (x y : Byte) : List Instr :=
  [.mviR .a x, op y] ++ after

/-- Numbers added or subtracted byte by byte from the least significant byte (41_arithmetic.md R162): the bytes of
the result, and the state at the end. The first pair uses `first`, each later one `next`. -/
def byBytes (first next : Byte → Instr) (after : List Instr) : List (Byte × Byte) → State → Option (List Byte × State)
  | [], s => some ([], s)
  | (x, y) :: rest, s =>
    match execAll (byteProgram first after x y) s with
    | none => none
    | some t =>
      match byBytes next next after rest t with
      | none => none
      | some (rs, u) => some (t.reg .a :: rs, u)

/-- The number that bytes stand for, the least significant first, each worth `digit` in the base. -/
def valueOf (base : Nat) (digit : Byte → Nat) : List Byte → Nat
  | [] => 0
  | v :: rest => digit v + base * valueOf base digit rest

/-- The byte holds two decimal digits (41_arithmetic.md R161). -/
def IsDecimal (v : Byte) : Prop := v.toNat % 16 ≤ 9 ∧ v.toNat / 16 ≤ 9

/-- The number two decimal digits stand for (41_arithmetic.md R161). -/
def decimalOf (v : Byte) : Nat := v.toNat / 16 * 10 + v.toNat % 16

/-! ### Tables over all instructions -/

/-- The instruction transfers control (10_state.md R16); of the unused codes, those that jump, call or return under
the policy `likeIntel8080` (log 4). -/
def transfersControl : Instr → Bool
  | .pchl | .jmp _ | .jnz _ | .jz _ | .jnc _ | .jc _ | .jpo _ | .jpe _ | .jp _ | .jm _ => true
  | .call _ | .cnz _ | .cz _ | .cnc _ | .cc _ | .cpo _ | .cpe _ | .cp _ | .cm _ | .rst _ => true
  | .ret | .rnz | .rz | .rnc | .rc | .rpo | .rpe | .rp | .rm => true
  | .unused .xCB | .unused .xD9 | .unused .xDD | .unused .xED | .unused .xFD => true
  | _ => false

/-- The instruction saves or reads PC: the calls and RST (10_state.md R16), and the unused codes (log 4). -/
def usesPc : Instr → Bool
  | .call _ | .cnz _ | .cz _ | .cnc _ | .cc _ | .cpo _ | .cpe _ | .cp _ | .cm _ | .rst _ | .unused _ => true
  | _ => false

/-- The instruction writes all five flags (10_state.md R23). -/
def writesAllFlags : Instr → Bool
  | .addR _ | .addM | .adi _ | .adcR _ | .adcM | .aci _ | .subR _ | .subM | .sui _ | .sbbR _ | .sbbM | .sbi _ => true
  | .cmpR _ | .cmpM | .cpi _ | .anaR _ | .anaM | .ani _ | .oraR _ | .oraM | .ori _ | .xraR _ | .xraM | .xri _ => true
  | .daa | .popPsw => true
  | _ => false

/-- The instruction writes Z, S, P and AC and not CY (10_state.md R23). -/
def writesAllButCarry : Instr → Bool
  | .inrR _ | .inrM | .dcrR _ | .dcrM => true
  | _ => false

/-- The instruction writes CY alone (10_state.md R23). -/
def writesCarryAlone : Instr → Bool
  | .dad _ | .rlc | .rrc | .ral | .rar | .stc | .cmc => true
  | _ => false

/-- The instruction may write SP (10_state.md R18). -/
def writesSp : Instr → Bool
  | .lxiSp _ | .sphl | .inx .sp | .dcx .sp => true
  | .push _ | .pushPsw | .pop _ | .popPsw => true
  | .call _ | .cnz _ | .cz _ | .cnc _ | .cc _ | .cpo _ | .cpe _ | .cp _ | .cm _ | .rst _ => true
  | .ret | .rnz | .rz | .rnc | .rc | .rpo | .rpe | .rp | .rm => true
  | .unused .xD9 | .unused .xDD | .unused .xED | .unused .xFD => true
  | _ => false

/-- The registers an instruction may write (10_state.md R11, R14). -/
def destinations : Instr → List Reg8
  | .mviR r _ | .movRR r _ | .movRM r | .inrR r | .dcrR r => [r]
  | .lxi p _ | .pop p => pairRegs p
  | .inx .bc | .dcx .bc => [.b, .c]
  | .inx .de | .dcx .de => [.d, .e]
  | .inx .hl | .dcx .hl => [.h, .l]
  | .dad _ | .lhld _ | .xthl => [.h, .l]
  | .xchg => [.d, .e, .h, .l]
  | .lda _ | .ldax _ | .inPort _ | .popPsw | .cma | .daa | .rlc | .rrc | .ral | .rar => [.a]
  | .addR _ | .addM | .adi _ | .adcR _ | .adcM | .aci _ | .subR _ | .subM | .sui _ | .sbbR _ | .sbbM | .sbi _ => [.a]
  | .anaR _ | .anaM | .ani _ | .oraR _ | .oraM | .ori _ | .xraR _ | .xraM | .xri _ => [.a]
  | _ => []

/-- `len(B1)` as the lists of 30_encoding.md R74 give it, for a code that is used. -/
def lengthOf (b1 : Nat) : Nat :=
  if b1 ∈ [0x01, 0x11, 0x21, 0x31, 0x22, 0x2A, 0x32, 0x3A, 0xC3, 0xC2, 0xCA, 0xD2, 0xDA, 0xE2, 0xEA, 0xF2, 0xFA, 0xCD,
    0xC4, 0xCC, 0xD4, 0xDC, 0xE4, 0xEC, 0xF4, 0xFC] then 3
  else if b1 ∈ [0x06, 0x0E, 0x16, 0x1E, 0x26, 0x2E, 0x36, 0x3E, 0xC6, 0xCE, 0xD6, 0xDE, 0xE6, 0xEE, 0xF6, 0xFE, 0xD3,
    0xDB] then 2
  else 1

/-- The 12 unused codes (30_encoding.md R86). -/
def unusedCodes : List (Nat × UnusedCode) :=
  [(0x08, .x08), (0x10, .x10), (0x18, .x18), (0x20, .x20), (0x28, .x28), (0x30, .x30), (0x38, .x38), (0xCB, .xCB),
    (0xD9, .xD9), (0xDD, .xDD), (0xED, .xED), (0xFD, .xFD)]

/-! ### What the environment does at one step -/

/-- The sample the next step reads: quiet when none is left (log 8). -/
def sampleOf (s : State) : Sample := s.lines.headD Sample.quiet

/-- No reset, and no interrupt that could be accepted, at the next step (60_exceptions.md R273, the spec's own choice,
92 D13, D14; log 8, log 13). -/
def NoEvent (s : State) : Prop :=
  (sampleOf s).reset = false ∧ ((sampleOf s).int = none ∨ s.inte = false ∨ s.eiPending = true)

/-- The three bytes from PC on, each address modulo 65536 (30_encoding.md R81). -/
def codeBytes (s : State) : List Byte :=
  [s.readByte .instructionFetch s.pc, s.readByte .instructionFetch (s.pc + 1), s.readByte .instructionFetch (s.pc + 2)]

end Sys2Proof.Claims

open Sys2Proof Sys2Proof.Machine Sys2Proof.Claims

/-! ## Data transfer -/

/-- MVI r, MOV r1,r2, MOV r,M, LDA, LDAX (40_data_transfer.md R101, R105, R107, R114, R115). STAX and LDAX have no
form with HL: the codes 22h and 2Ah are other instructions, so the pair HL is no form of LDAX. -/
def Obligations.ByteLoadsGiveTheirRegister : Prop :=
  (∀ r, Words2 (.mviR r) (0x06 + 8 * regCode r) ∧ ∀ d8, Takes (.mviR r d8) 2 7 ∧ ∀ s, LoadsByte (.mviR r d8) s r d8) ∧
  (∀ dst src, Words1 (.movRR dst src) (0x40 + 8 * regCode dst + regCode src) ∧ Takes (.movRR dst src) 1 5 ∧
    ∀ s, LoadsByte (.movRR dst src) s dst (s.reg src)) ∧
  (∀ dst, Words1 (.movRM dst) (0x46 + 8 * regCode dst) ∧ Takes (.movRM dst) 2 7 ∧
    ∀ s, LoadsByte (.movRM dst) s dst (cellM s)) ∧
  (Words3 .lda 0x3A ∧ ∀ adr, Takes (.lda adr) 4 13 ∧ ∀ s, LoadsByte (.lda adr) s .a (s.readByte .memRead adr)) ∧
  (∀ p, p ≠ .hl → Words1 (.ldax p) (0x0A + 16 * pairCode p) ∧ Takes (.ldax p) 2 7 ∧
    ∀ s, LoadsByte (.ldax p) s .a (s.readByte .memRead (pairOf s p)))

/-- LXI B, D, H (R103), LXI SP (R104), SPHL (R109), XCHG (R108) of 40_data_transfer.md. -/
def Obligations.PairLoadsGiveTheirPair : Prop :=
  (∀ p, Words3 (.lxi p) (0x01 + 16 * pairCode p) ∧ ∀ d16, Takes (.lxi p d16) 3 10 ∧ ∀ s, ∃ t,
    exec (.lxi p d16) s = .next t ∧ pairOf t p = d16 ∧ t.flags = s.flags ∧ t.sp = s.sp ∧ t.pc = s.pc ∧
      Frame s t (pairRegs p) []) ∧
  (Words3 .lxiSp 0x31 ∧ ∀ d16, Takes (.lxiSp d16) 3 10 ∧ ∀ s, ∃ t,
    exec (.lxiSp d16) s = .next t ∧ t.sp = d16 ∧ t.flags = s.flags ∧ t.pc = s.pc ∧ Frame s t [] []) ∧
  (Words1 .sphl 0xF9 ∧ Takes .sphl 1 5 ∧ ∀ s, ∃ t,
    exec .sphl s = .next t ∧ t.sp = pairOf s .hl ∧ t.flags = s.flags ∧ t.pc = s.pc ∧ Frame s t [] []) ∧
  (Words1 .xchg 0xEB ∧ Takes .xchg 1 4 ∧ ∀ s, ∃ t,
    exec .xchg s = .next t ∧ t.reg .h = s.reg .d ∧ t.reg .l = s.reg .e ∧ t.reg .d = s.reg .h ∧ t.reg .e = s.reg .l ∧
      t.flags = s.flags ∧ t.sp = s.sp ∧ t.pc = s.pc ∧ Frame s t [.d, .e, .h, .l] [])

/-- MVI M, MOV M,r, STA, STAX (40_data_transfer.md R102, R106, R111, R112), for a memory in its canonical form. That
ROM and absent cells ignore the store (`Stored`) is the spec's own choice (92 D10, 93 U16) in the form of log 6; the
cards' rules do not say it. -/
def Obligations.ByteStoresWriteOneCell : Prop :=
  (Words2 .mviM 0x36 ∧ ∀ d8, Takes (.mviM d8) 3 10 ∧
    ∀ s : State, s.mem.wf = true → StoresByte (.mviM d8) s (pairOf s .hl) d8) ∧
  (∀ src, Words1 (.movMR src) (0x70 + regCode src) ∧ Takes (.movMR src) 2 7 ∧
    ∀ s : State, s.mem.wf = true → StoresByte (.movMR src) s (pairOf s .hl) (s.reg src)) ∧
  (Words3 .sta 0x32 ∧ ∀ adr, Takes (.sta adr) 4 13 ∧
    ∀ s : State, s.mem.wf = true → StoresByte (.sta adr) s adr (s.reg .a)) ∧
  (∀ p, p ≠ .hl → Words1 (.stax p) (0x02 + 16 * pairCode p) ∧ Takes (.stax p) 2 7 ∧
    ∀ s : State, s.mem.wf = true → StoresByte (.stax p) s (pairOf s p) (s.reg .a))

/-- SHLD (40_data_transfer.md R113), for a memory in its canonical form, and LHLD (R116): L goes with the address, H
with the next address, taken modulo 65536 (the spec's own choice, 92 D3; log 13). That ROM and absent cells ignore the
store is the spec's own choice too (92 D10, 93 U16; log 6). -/
def Obligations.DirectHlTransfersUseTwoCells : Prop :=
  (Words3 .shld 0x22 ∧ ∀ adr, Takes (.shld adr) 5 16 ∧ ∀ s : State, s.mem.wf = true → ∃ t,
    exec (.shld adr) s = .next t ∧ Stored s t adr (s.reg .l) ∧ Stored s t (adr + 1) (s.reg .h) ∧
      t.flags = s.flags ∧ t.sp = s.sp ∧ t.pc = s.pc ∧ Frame s t [] [adr, adr + 1]) ∧
  (Words3 .lhld 0x2A ∧ ∀ adr, Takes (.lhld adr) 5 16 ∧ ∀ s, ∃ t,
    exec (.lhld adr) s = .next t ∧ t.reg .l = s.readByte .memRead adr ∧ t.reg .h = s.readByte .memRead (adr + 1) ∧
      t.flags = s.flags ∧ t.sp = s.sp ∧ t.pc = s.pc ∧ Frame s t [.h, .l] [])

/-- XCHG twice (40_data_transfer.md R108) and XTHL twice (44_stack_io_control.md R225, the spec's general knowledge,
log 13) give back the state they started from; for XTHL, where the two cells of the stack are RAM. -/
def Obligations.ExchangesTwiceRestoreTheState : Prop :=
  (∀ s, execAll [.xchg, .xchg] s = some s) ∧
  (∀ s : State, s.mem.wf = true → s.kindAt s.sp = .ram → s.kindAt (s.sp + 1) = .ram →
    execAll [.xthl, .xthl] s = some s)

/-! ## Arithmetic -/

/-- ADD, ADI, ADC, ACI by `add8` (41_arithmetic.md R131, R133 to R138). -/
def Obligations.AdditionsGiveSumAndFlags : Prop :=
  (∀ r, Words1 (.addR r) (0x80 + regCode r) ∧ Takes (.addR r) 1 4 ∧
    ∀ s, AccumulatorGets (.addR r) s (IsSum (s.reg .a) (s.reg r) false)) ∧
  (Words1 .addM 0x86 ∧ Takes .addM 2 7 ∧ ∀ s, AccumulatorGets .addM s (IsSum (s.reg .a) (cellM s) false)) ∧
  (Words2 .adi 0xC6 ∧ ∀ d8, Takes (.adi d8) 2 7 ∧ ∀ s, AccumulatorGets (.adi d8) s (IsSum (s.reg .a) d8 false)) ∧
  (∀ r, Words1 (.adcR r) (0x88 + regCode r) ∧ Takes (.adcR r) 1 4 ∧
    ∀ s, AccumulatorGets (.adcR r) s (IsSum (s.reg .a) (s.reg r) s.flags.cy)) ∧
  (Words1 .adcM 0x8E ∧ Takes .adcM 2 7 ∧ ∀ s, AccumulatorGets .adcM s (IsSum (s.reg .a) (cellM s) s.flags.cy)) ∧
  (Words2 .aci 0xCE ∧ ∀ d8, Takes (.aci d8) 2 7 ∧ ∀ s, AccumulatorGets (.aci d8) s (IsSum (s.reg .a) d8 s.flags.cy))

/-- SUB, SUI, SBB, SBI by `sub8` (41_arithmetic.md R132, R139 to R144). AC after a subtraction is the spec's own
choice (92 D4, "[from general knowledge, not in source]"; log 13). -/
def Obligations.SubtractionsGiveDifferenceAndFlags : Prop :=
  (∀ r, Words1 (.subR r) (0x90 + regCode r) ∧ Takes (.subR r) 1 4 ∧
    ∀ s, AccumulatorGets (.subR r) s (IsDifference (s.reg .a) (s.reg r) false)) ∧
  (Words1 .subM 0x96 ∧ Takes .subM 2 7 ∧ ∀ s, AccumulatorGets .subM s (IsDifference (s.reg .a) (cellM s) false)) ∧
  (Words2 .sui 0xD6 ∧ ∀ d8, Takes (.sui d8) 2 7 ∧ ∀ s, AccumulatorGets (.sui d8) s (IsDifference (s.reg .a) d8 false)) ∧
  (∀ r, Words1 (.sbbR r) (0x98 + regCode r) ∧ Takes (.sbbR r) 1 4 ∧
    ∀ s, AccumulatorGets (.sbbR r) s (IsDifference (s.reg .a) (s.reg r) s.flags.cy)) ∧
  (Words1 .sbbM 0x9E ∧ Takes .sbbM 2 7 ∧
    ∀ s, AccumulatorGets .sbbM s (IsDifference (s.reg .a) (cellM s) s.flags.cy)) ∧
  (Words2 .sbi 0xDE ∧ ∀ d8, Takes (.sbi d8) 2 7 ∧
    ∀ s, AccumulatorGets (.sbi d8) s (IsDifference (s.reg .a) d8 s.flags.cy))

/-- `sub8(a, x, bin) = add8(a, 255 - x, 1 - bin)` with CY inverted afterwards (41_arithmetic.md R132). For AC this is
the spec's own choice (92 D4; log 13). -/
def Obligations.SubtractionIsAdditionOfComplement : Prop :=
  ∀ (a x y : Byte) (bin : Bool), y.toNat = 255 - x.toNat →
    (sub8 a x bin).val = (add8 a y (!bin)).val ∧
      (sub8 a x bin).flags = { (add8 a y (!bin)).flags with cy := !(add8 a y (!bin)).flags.cy }

/-- INR r and INR M (41_arithmetic.md R146, R147); the memory form for a memory in its canonical form. That ROM and
absent cells ignore the write of INR M (`Stored`) is the spec's own choice (92 D10, 93 U16) in the form of log 6; R146
and R147 do not say it. -/
def Obligations.IncrementsKeepCarry : Prop :=
  (∀ r, Words1 (.inrR r) (0x04 + 8 * regCode r) ∧ Takes (.inrR r) 1 5 ∧ ∀ s, ∃ t,
    exec (.inrR r) s = .next t ∧ (t.reg r).toNat = ((s.reg r).toNat + 1) % 256 ∧ ResultFlags t.flags (t.reg r) ∧
      (t.flags.ac = true ↔ (s.reg r).toNat % 16 = 15) ∧ t.flags.cy = s.flags.cy ∧ t.sp = s.sp ∧ t.pc = s.pc ∧
      Frame s t [r] []) ∧
  (Words1 .inrM 0x34 ∧ Takes .inrM 3 10 ∧ ∀ s : State, s.mem.wf = true → ∃ (t : State) (v : Byte),
    exec .inrM s = .next t ∧ v.toNat = ((cellM s).toNat + 1) % 256 ∧ Stored s t (pairOf s .hl) v ∧
      ResultFlags t.flags v ∧ (t.flags.ac = true ↔ (cellM s).toNat % 16 = 15) ∧ t.flags.cy = s.flags.cy ∧
      t.sp = s.sp ∧ t.pc = s.pc ∧ Frame s t [] [pairOf s .hl])

/-- DCR r and DCR M (41_arithmetic.md R148, R149). AC is the spec's own choice (92 D4; log 13), and so is that ROM and
absent cells ignore the write of DCR M (92 D10, 93 U16; log 6). -/
def Obligations.DecrementsKeepCarry : Prop :=
  (∀ r, Words1 (.dcrR r) (0x05 + 8 * regCode r) ∧ Takes (.dcrR r) 1 5 ∧ ∀ s, ∃ t,
    exec (.dcrR r) s = .next t ∧ (t.reg r).toNat = ((s.reg r).toNat + 255) % 256 ∧ ResultFlags t.flags (t.reg r) ∧
      (t.flags.ac = true ↔ (s.reg r).toNat % 16 ≠ 0) ∧ t.flags.cy = s.flags.cy ∧ t.sp = s.sp ∧ t.pc = s.pc ∧
      Frame s t [r] []) ∧
  (Words1 .dcrM 0x35 ∧ Takes .dcrM 3 10 ∧ ∀ s : State, s.mem.wf = true → ∃ (t : State) (v : Byte),
    exec .dcrM s = .next t ∧ v.toNat = ((cellM s).toNat + 255) % 256 ∧ Stored s t (pairOf s .hl) v ∧
      ResultFlags t.flags v ∧ (t.flags.ac = true ↔ (cellM s).toNat % 16 ≠ 0) ∧ t.flags.cy = s.flags.cy ∧
      t.sp = s.sp ∧ t.pc = s.pc ∧ Frame s t [] [pairOf s .hl])

/-- INX and DCX (41_arithmetic.md R150, R151): the pair or SP, modulo 65536 (the spec's own choice, 92 D3; log 13), and
no flag. -/
def Obligations.PairStepsTouchNoFlag : Prop :=
  (∀ p, Words1 (.inx p) (0x03 + 16 * rpCode p) ∧ Takes (.inx p) 1 5 ∧ ∀ s, ∃ t,
    exec (.inx p) s = .next t ∧ (rpOf t p).toNat = ((rpOf s p).toNat + 1) % 65536 ∧ (p ≠ .sp → t.sp = s.sp) ∧
      t.flags = s.flags ∧ t.pc = s.pc ∧ Frame s t (destinations (.inx p)) []) ∧
  (∀ p, Words1 (.dcx p) (0x0B + 16 * rpCode p) ∧ Takes (.dcx p) 1 5 ∧ ∀ s, ∃ t,
    exec (.dcx p) s = .next t ∧ (rpOf t p).toNat = ((rpOf s p).toNat + 65535) % 65536 ∧ (p ≠ .sp → t.sp = s.sp) ∧
      t.flags = s.flags ∧ t.pc = s.pc ∧ Frame s t (destinations (.dcx p)) [])

/-- DAD (41_arithmetic.md R145): HL and CY, and no other flag. -/
def Obligations.DadAddsIntoHlAndCarry : Prop :=
  ∀ p, Words1 (.dad p) (0x09 + 16 * rpCode p) ∧ Takes (.dad p) 3 10 ∧ ∀ s, ∃ t,
    exec (.dad p) s = .next t ∧ (pairOf t .hl).toNat = ((pairOf s .hl).toNat + (rpOf s p).toNat) % 65536 ∧
      OnlyCarry s.flags t.flags (decide (65535 < (pairOf s .hl).toNat + (rpOf s p).toNat)) ∧
      t.sp = s.sp ∧ t.pc = s.pc ∧ Frame s t [.h, .l] []

/-- DAA in the one-shot form of 41_arithmetic.md R160. The exact carries are the spec's own choice (92 D6; log 13). -/
def Obligations.DaaAddsTheCorrection : Prop :=
  Words1 .daa 0x27 ∧ Takes .daa 1 4 ∧ ∀ s : State,
    let a := (s.reg .a).toNat
    let six : Bool := decide (9 < a % 16) || s.flags.ac
    let sixty : Bool := decide (9 < a / 16) || s.flags.cy || (decide (9 ≤ a / 16) && decide (9 < a % 16))
    AccumulatorGets .daa s fun v f =>
      v.toNat = (a + (if six then 6 else 0) + (if sixty then 0x60 else 0)) % 256 ∧ ResultFlags f v ∧ f.cy = sixty ∧
        f.ac = (six && decide (15 < a % 16 + 6))

/-- After ADI or ACI of two-digit decimal numbers DAA gives the decimal sum, with CY the hundreds
(41_arithmetic.md R160, R161; the exact carries: 92 D6, log 13). -/
def Obligations.DaaCorrectsDecimalSums : Prop :=
  ∀ (s : State) (d8 : Byte), IsDecimal (s.reg .a) → IsDecimal d8 →
    (∃ t, execAll [.adi d8, .daa] s = some t ∧ IsDecimal (t.reg .a) ∧
      decimalOf (t.reg .a) + 100 * t.flags.cy.toNat = decimalOf (s.reg .a) + decimalOf d8) ∧
    (∃ t, execAll [.aci d8, .daa] s = some t ∧ IsDecimal (t.reg .a) ∧
      decimalOf (t.reg .a) + 100 * t.flags.cy.toNat = decimalOf (s.reg .a) + decimalOf d8 + s.flags.cy.toNat)

/-- Numbers of any number of bytes are added with ADI for the first byte and ACI for each following one
(41_arithmetic.md R162): the bytes of the sum, and CY the carry out of the last. -/
def Obligations.ChainedAdditionIsExact : Prop :=
  ∀ (xys : List (Byte × Byte)) (s : State), xys ≠ [] → ∃ rs t,
    byBytes .adi .aci [] xys s = some (rs, t) ∧ rs.length = xys.length ∧
      valueOf 256 BitVec.toNat rs + 256 ^ xys.length * t.flags.cy.toNat =
        valueOf 256 BitVec.toNat (xys.map Prod.fst) + valueOf 256 BitVec.toNat (xys.map Prod.snd)

/-- Numbers of any number of bytes are subtracted with SUI for the first byte and SBI for each following one
(41_arithmetic.md R162): the bytes of the difference, and CY the borrow out of the last. -/
def Obligations.ChainedSubtractionIsExact : Prop :=
  ∀ (xys : List (Byte × Byte)) (s : State), xys ≠ [] → ∃ rs t,
    byBytes .sui .sbi [] xys s = some (rs, t) ∧ rs.length = xys.length ∧
      valueOf 256 BitVec.toNat rs + valueOf 256 BitVec.toNat (xys.map Prod.snd) =
        valueOf 256 BitVec.toNat (xys.map Prod.fst) + 256 ^ xys.length * t.flags.cy.toNat

/-- Decimal numbers of any number of bytes, two digits a byte, are added with DAA after each ADI or ACI
(41_arithmetic.md R160, R161, R162; the exact carries: 92 D6, log 13). -/
def Obligations.ChainedDecimalAdditionIsExact : Prop :=
  ∀ (xys : List (Byte × Byte)) (s : State), xys ≠ [] → (∀ xy ∈ xys, IsDecimal xy.1 ∧ IsDecimal xy.2) → ∃ rs t,
    byBytes .adi .aci [.daa] xys s = some (rs, t) ∧ rs.length = xys.length ∧ (∀ r ∈ rs, IsDecimal r) ∧
      valueOf 100 decimalOf rs + 100 ^ xys.length * t.flags.cy.toNat =
        valueOf 100 decimalOf (xys.map Prod.fst) + valueOf 100 decimalOf (xys.map Prod.snd)

/-! ## Logic -/

/-- ANA and ANI (42_logical.md R171 to R174), AC by AND_AC_RULE: 0, the spec's default, or bit 3 of either operand
(92 D5; log 5). -/
def Obligations.AndsGiveResultAndFlags : Prop :=
  let result (s : State) (x : Byte) : Byte → Flags → Prop := fun r f =>
    IsBitwise and (s.reg .a) x r f ∧ (s.params.andAc = .zero → f.ac = false) ∧
      (s.params.andAc = .orBit3 → f.ac = ((s.reg .a).getLsbD 3 || x.getLsbD 3))
  (∀ r, Words1 (.anaR r) (0xA0 + regCode r) ∧ Takes (.anaR r) 1 4 ∧
    ∀ s, AccumulatorGets (.anaR r) s (result s (s.reg r))) ∧
  (Words1 .anaM 0xA6 ∧ Takes .anaM 2 7 ∧ ∀ s, AccumulatorGets .anaM s (result s (cellM s))) ∧
  (Words2 .ani 0xE6 ∧ ∀ d8, Takes (.ani d8) 2 7 ∧ ∀ s, AccumulatorGets (.ani d8) s (result s d8))

/-- ORA, ORI, XRA, XRI (42_logical.md R175 to R180): CY and AC become 0. -/
def Obligations.OrsAndXorsGiveResultAndFlags : Prop :=
  let result (op : Bool → Bool → Bool) (s : State) (x : Byte) : Byte → Flags → Prop := fun r f =>
    IsBitwise op (s.reg .a) x r f ∧ f.ac = false
  (∀ r, Words1 (.oraR r) (0xB0 + regCode r) ∧ Takes (.oraR r) 1 4 ∧
    ∀ s, AccumulatorGets (.oraR r) s (result or s (s.reg r))) ∧
  (Words1 .oraM 0xB6 ∧ Takes .oraM 2 7 ∧ ∀ s, AccumulatorGets .oraM s (result or s (cellM s))) ∧
  (Words2 .ori 0xF6 ∧ ∀ d8, Takes (.ori d8) 2 7 ∧ ∀ s, AccumulatorGets (.ori d8) s (result or s d8)) ∧
  (∀ r, Words1 (.xraR r) (0xA8 + regCode r) ∧ Takes (.xraR r) 1 4 ∧
    ∀ s, AccumulatorGets (.xraR r) s (result xor s (s.reg r))) ∧
  (Words1 .xraM 0xAE ∧ Takes .xraM 2 7 ∧ ∀ s, AccumulatorGets .xraM s (result xor s (cellM s))) ∧
  (Words2 .xri 0xEE ∧ ∀ d8, Takes (.xri d8) 2 7 ∧ ∀ s, AccumulatorGets (.xri d8) s (result xor s d8))

/-- CMP and CPI (42_logical.md R182 to R184): the flags of the subtraction, with A kept, so Z says equal and CY says
A below the operand. AC is the spec's own choice (92 D4; log 13). -/
def Obligations.ComparesSetFlagsOnly : Prop :=
  (∀ r, Words1 (.cmpR r) (0xB8 + regCode r) ∧ Takes (.cmpR r) 1 4 ∧ ∀ s, ComparesWith (.cmpR r) s (s.reg r)) ∧
  (Words1 .cmpM 0xBE ∧ Takes .cmpM 2 7 ∧ ∀ s, ComparesWith .cmpM s (cellM s)) ∧
  (Words2 .cpi 0xFE ∧ ∀ d8, Takes (.cpi d8) 2 7 ∧ ∀ s, ComparesWith (.cpi d8) s d8) ∧
  (∀ (i : Instr) (s t : State) (x : Byte), ComparesWith i s x → exec i s = .next t →
    (t.flags.z = true ↔ s.reg .a = x) ∧ (t.flags.cy = true ↔ (s.reg .a).toNat < x.toNat))

/-- CMA (42_logical.md R181), STC (R185), CMC (R186). -/
def Obligations.ComplementAndCarryInstructions : Prop :=
  (Words1 .cma 0x2F ∧ Takes .cma 1 4 ∧ ∀ s : State, ∃ t,
    exec .cma s = .next t ∧ (t.reg .a).toNat = 255 - (s.reg .a).toNat ∧
      (∀ k, k < 8 → (t.reg .a).getLsbD k = !(s.reg .a).getLsbD k) ∧ t.flags = s.flags ∧ t.sp = s.sp ∧ t.pc = s.pc ∧
      Frame s t [.a] []) ∧
  (Words1 .stc 0x37 ∧ Takes .stc 1 4 ∧ ∀ s, ∃ t,
    exec .stc s = .next t ∧ OnlyCarry s.flags t.flags true ∧ t.sp = s.sp ∧ t.pc = s.pc ∧ Frame s t [] []) ∧
  (Words1 .cmc 0x3F ∧ Takes .cmc 1 4 ∧ ∀ s, ∃ t,
    exec .cmc s = .next t ∧ OnlyCarry s.flags t.flags (!s.flags.cy) ∧ t.sp = s.sp ∧ t.pc = s.pc ∧ Frame s t [] [])

/-- RLC, RRC, RAL, RAR (42_logical.md R187 to R190): only A and CY change. -/
def Obligations.RotatesMoveOneBit : Prop :=
  (Words1 .rlc 0x07 ∧ Takes .rlc 1 4 ∧ ∀ s,
    Rotates .rlc s ((s.reg .a).toNat * 2 % 256 + bitOf (s.reg .a) 7) ((s.reg .a).getLsbD 7)) ∧
  (Words1 .rrc 0x0F ∧ Takes .rrc 1 4 ∧ ∀ s,
    Rotates .rrc s ((s.reg .a).toNat / 2 + 128 * bitOf (s.reg .a) 0) ((s.reg .a).getLsbD 0)) ∧
  (Words1 .ral 0x17 ∧ Takes .ral 1 4 ∧ ∀ s,
    Rotates .ral s ((s.reg .a).toNat * 2 % 256 + s.flags.cy.toNat) ((s.reg .a).getLsbD 7)) ∧
  (Words1 .rar 0x1F ∧ Takes .rar 1 4 ∧ ∀ s,
    Rotates .rar s ((s.reg .a).toNat / 2 + 128 * s.flags.cy.toNat) ((s.reg .a).getLsbD 0))

/-- Eight RLC or RRC give A back and nine RAL or RAR give A and CY back (42_logical.md R187, R189), and a left and a
right rotate undo each other in A. -/
def Obligations.RepeatedRotatesRestore : Prop :=
  (∀ s, ∃ t, execAll (List.replicate 8 .rlc) s = some t ∧ t.regs = s.regs) ∧
  (∀ s, ∃ t, execAll (List.replicate 8 .rrc) s = some t ∧ t.regs = s.regs) ∧
  (∀ s, execAll (List.replicate 9 .ral) s = some s) ∧
  (∀ s, execAll (List.replicate 9 .rar) s = some s) ∧
  (∀ s, execAll [.ral, .rar] s = some s) ∧
  (∀ s, ∃ t, execAll [.rlc, .rrc] s = some t ∧ t.regs = s.regs)

/-! ## Jumps -/

/-- JMP (43_jumps.md R201) and PCHL (40_data_transfer.md R110). -/
def Obligations.UnconditionalJumpsLoadPc : Prop :=
  (Words3 .jmp 0xC3 ∧ ∀ adr, Takes (.jmp adr) 3 10 ∧ ∀ s, ∃ t,
    exec (.jmp adr) s = .next t ∧ t.pc = adr ∧ t.flags = s.flags ∧ t.sp = s.sp ∧ Frame s t [] []) ∧
  (Words1 .pchl 0xE9 ∧ Takes .pchl 1 5 ∧ ∀ s, ∃ t,
    exec .pchl s = .next t ∧ t.pc = pairOf s .hl ∧ t.flags = s.flags ∧ t.sp = s.sp ∧ Frame s t [] [])

/-- The eight conditional jumps (43_jumps.md R202 to R209): the target when the condition holds, else the address
after the instruction. The cycles and clocks of a jump not taken under each value of JCC_NOT_TAKEN_CLOCKS are the
spec's own choice (70 R312, 92 D19) in the form of log 12 (DESIGN CHOICE); R202 to R209 do not fix them. -/
def Obligations.ConditionalJumpsTestOneFlag : Prop :=
  ∀ test, Words3 (jumpOn test) (0xC2 + 8 * condCode test) ∧ ∀ adr (s : State),
    (∃ t, exec (jumpOn test adr) s = .next t ∧ (Holds test s.flags → t.pc = adr) ∧
      (¬ Holds test s.flags → t.pc = s.pc) ∧ t.flags = s.flags ∧ t.sp = s.sp ∧ Frame s t [] []) ∧
    (∀ rule, Holds test s.flags → cost (jumpOn test adr) s.flags rule = ⟨3, 10⟩) ∧
    (¬ Holds test s.flags → cost (jumpOn test adr) s.flags .clocks10 = ⟨3, 10⟩ ∧
      cost (jumpOn test adr) s.flags .clocks5 = ⟨1, 5⟩)

/-! ## Stack and subroutines: the spec's general knowledge of the Intel 8080 (44 R220, 92 D1, D7, D8; log 13), with
ROM and absent cells ignoring a store by the spec's own choice (92 D10, 93 U16; log 6) -/

/-- PUSH rp (44 R221) and PUSH PSW (44 R222), which stores A above the flag byte of 10_state.md R24, for a memory in
its canonical form. -/
def Obligations.PushesStoreTheirItem : Prop :=
  (∀ p, Words1 (.push p) (0xC5 + 16 * pairCode p) ∧ Takes (.push p) 3 11 ∧ ∀ s : State, s.mem.wf = true → ∃ t,
    exec (.push p) s = .next t ∧ Pushed s t (high (pairOf s p)) (low (pairOf s p)) ∧ t.flags = s.flags ∧
      t.pc = s.pc ∧ Frame s t [] [s.sp - 1, s.sp - 2]) ∧
  (Words1 .pushPsw 0xF5 ∧ Takes .pushPsw 3 11 ∧ ∀ s : State, s.mem.wf = true → ∃ (t : State) (v : Byte),
    exec .pushPsw s = .next t ∧ IsFlagByte s.flags v ∧ Pushed s t (s.reg .a) v ∧ t.flags = s.flags ∧ t.pc = s.pc ∧
      Frame s t [] [s.sp - 1, s.sp - 2])

/-- POP rp (44 R223) and POP PSW (44 R224, 10_state.md R24): memory is not changed. -/
def Obligations.PopsLoadFromTheStack : Prop :=
  (∀ p, Words1 (.pop p) (0xC1 + 16 * pairCode p) ∧ Takes (.pop p) 3 10 ∧ ∀ s, ∃ t,
    exec (.pop p) s = .next t ∧ pairOf t p = topHigh s ++ topLow s ∧ t.sp = s.sp + 2 ∧ t.flags = s.flags ∧
      t.pc = s.pc ∧ Frame s t (pairRegs p) []) ∧
  (Words1 .popPsw 0xF1 ∧ Takes .popPsw 3 10 ∧ ∀ s, ∃ t,
    exec .popPsw s = .next t ∧ t.reg .a = topHigh s ∧ TakesFlagByte t.flags (topLow s) ∧ t.sp = s.sp + 2 ∧
      t.pc = s.pc ∧ Frame s t [.a] [])

/-- XTHL (44 R225): HL and the two bytes at SP change places; SP stays. -/
def Obligations.XthlExchangesHlWithTheStack : Prop :=
  Words1 .xthl 0xE3 ∧ Takes .xthl 5 18 ∧ ∀ s : State, s.mem.wf = true → ∃ t,
    exec .xthl s = .next t ∧ t.reg .h = topHigh s ∧ t.reg .l = topLow s ∧ Stored s t (s.sp + 1) (s.reg .h) ∧
      Stored s t s.sp (s.reg .l) ∧ t.flags = s.flags ∧ t.sp = s.sp ∧ t.pc = s.pc ∧
      Frame s t [.h, .l] [s.sp, s.sp + 1]

/-- What is pushed is popped (20_memory.md R58), into any pair, and PUSH PSW with POP PSW gives A and the five flags
back, where the two cells below SP are RAM. -/
def Obligations.PopReadsWhatPushStored : Prop :=
  ∀ s : State, s.mem.wf = true → s.kindAt (s.sp - 1) = .ram → s.kindAt (s.sp - 2) = .ram →
    (∀ p q, ∃ t, execAll [.push p, .pop q] s = some t ∧ pairOf t q = pairOf s p ∧ t.sp = s.sp ∧ t.flags = s.flags ∧
      SameRegs s t (pairRegs q)) ∧
    (∀ i, i = .xraR .a ∨ i = .stc ∨ i = .cmc ∨ i = .daa ∨ i = .rlc ∨ i = .inrR .a →
      ∃ t, execAll [.pushPsw, i, .popPsw] s = some t ∧ t.regs = s.regs ∧ t.flags = s.flags ∧ t.sp = s.sp)

/-- CALL (44 R226) and the eight conditional calls (44 R227 to R234). -/
def Obligations.CallsPushTheNextAddress : Prop :=
  (Words3 .call 0xCD ∧ ∀ adr, Takes (.call adr) 5 17 ∧ ∀ s : State, s.mem.wf = true → CallsTo (.call adr) s adr) ∧
  (∀ test, Words3 (callOn test) (0xC4 + 8 * condCode test) ∧ ∀ adr (s : State),
    (Holds test s.flags → (∀ rule, cost (callOn test adr) s.flags rule = ⟨5, 17⟩) ∧
      (s.mem.wf = true → CallsTo (callOn test adr) s adr)) ∧
    (¬ Holds test s.flags → (∀ rule, cost (callOn test adr) s.flags rule = ⟨3, 11⟩) ∧ FallsThrough (callOn test adr) s))

/-- RET (44 R235) and the eight conditional returns (44 R236 to R243). -/
def Obligations.ReturnsPopPc : Prop :=
  (Words1 .ret 0xC9 ∧ Takes .ret 3 10 ∧ ∀ s, Returns .ret s) ∧
  (∀ test, Words1 (returnOn test) (0xC0 + 8 * condCode test) ∧ ∀ s : State,
    (Holds test s.flags → (∀ rule, cost (returnOn test) s.flags rule = ⟨3, 11⟩) ∧ Returns (returnOn test) s) ∧
    (¬ Holds test s.flags → (∀ rule, cost (returnOn test) s.flags rule = ⟨1, 5⟩) ∧ FallsThrough (returnOn test) s))

/-- RST n (44 R244): a call to 8 * n. -/
def Obligations.RestartCallsEightTimesN : Prop :=
  ∀ n : BitVec 3, Words1 (.rst n) (0xC7 + 8 * n.toNat) ∧ Takes (.rst n) 3 11 ∧
    ∀ s : State, s.mem.wf = true → CallsTo (.rst n) s (BitVec.ofNat 16 (8 * n.toNat))

/-- A call or a restart, then RET, comes back to the address after the call with SP, the registers and the flags as
before, where the two cells below SP are RAM (44 R226, R235, R244). -/
def Obligations.ReturnUndoesCall : Prop :=
  ∀ s : State, s.mem.wf = true → s.kindAt (s.sp - 1) = .ram → s.kindAt (s.sp - 2) = .ram →
    ∀ i : Instr, (∃ adr, i = .call adr) ∨ (∃ n, i = .rst n) ∨ (∃ test adr, Holds test s.flags ∧ i = callOn test adr) →
      ∃ t, execAll [i, .ret] s = some t ∧ t.pc = s.pc ∧ t.sp = s.sp ∧ t.regs = s.regs ∧ t.flags = s.flags

/-! ## Input, output, control, unused codes -/

/-- IN (44 R250): A gets the environment's answer for the port and in_count, which goes up by one. An answer the
environment has fixed is given; every other answer is a free value (log 7). OUT (44 R251): the pair of port and A is
appended to the output trace. Both are the spec's own choice (92 D11; log 13). -/
def Obligations.InputAndOutputMeetTheEnvironment : Prop :=
  (Words2 .inPort 0xDB ∧ ∀ port, Takes (.inPort port) 3 10 ∧ ∀ s : State, ∃ t,
    exec (.inPort port) s = .next t ∧ t.inCount = s.inCount + 1 ∧
      (∀ v, s.ioFixed.find? (fun x => decide (x.port = port ∧ x.n = s.inCount)) = some v → t.reg .a = v.value) ∧
      (s.ioFixed.find? (fun x => decide (x.port = port ∧ x.n = s.inCount)) = none →
        t.reg .a = Config.ioRead port s.inCount) ∧
      t.flags = s.flags ∧ t.sp = s.sp ∧ t.pc = s.pc ∧ t.ioOut = s.ioOut ∧ SameRegs s t [.a] ∧ SameMemory s t [] ∧
      SameControl s t ∧ SameRun s t) ∧
  (Words2 .outPort 0xD3 ∧ ∀ port, Takes (.outPort port) 3 10 ∧ ∀ s : State, ∃ t,
    exec (.outPort port) s = .next t ∧ t.ioOut = s.ioOut ++ [(port, s.reg .a)] ∧ t.inCount = s.inCount ∧
      t.flags = s.flags ∧ t.sp = s.sp ∧ t.pc = s.pc ∧ SameRegs s t [] ∧ SameMemory s t [] ∧ SameControl s t ∧
      SameRun s t)

/-- NOP (44 R260), HLT (R261), EI (R262), DI (R263): the spec's general knowledge (92 D1, D14, D15; log 13). -/
def Obligations.ControlInstructionsSetTheirBit : Prop :=
  (Words1 .nop 0x00 ∧ Takes .nop 1 4 ∧ ∀ s, FallsThrough .nop s) ∧
  (Words1 .hlt 0x76 ∧ Takes .hlt 1 7 ∧ ∀ s, exec .hlt s = .next { s with halted := true }) ∧
  (Words1 .ei 0xFB ∧ Takes .ei 1 4 ∧ ∀ s, exec .ei s = .next { s with eiPending := true }) ∧
  (Words1 .di 0xF3 ∧ Takes .di 1 4 ∧ ∀ s, exec .di s = .next { s with inte := false, eiPending := false })

/-- The 12 unused codes under UNUSED_OPCODE_POLICY = refuse, the spec's own decision (30_encoding.md R86, 92 D2;
log 4): the instruction and the step that fetches it are refused as UnusedOpcode(B1). -/
def Obligations.UnusedCodesAreRefused : Prop :=
  unusedCodes.length = 12 ∧ ∀ b code, (b, code) ∈ unusedCodes → Words1 (.unused code) b ∧
    ∀ s : State, s.params.unusedOpcodes = .refuse →
      exec (.unused code) s = .refused (.unusedOpcode (byte b)) ∧
      (NoEvent s → s.halted = false → s.readByte .instructionFetch s.pc = byte b →
        step s = .refused (.unusedOpcode (byte b)))

/-- The 12 unused codes under UNUSED_OPCODE_POLICY = likeIntel8080 (30_encoding.md R86, 95 M2, marked "[from general
knowledge, not in source]"; that the operand bytes stand at PC is the model's, log 4): they run as NOP, JMP adr, RET
and CALL adr, the two address bytes standing at PC. -/
def Obligations.UnusedCodesRunLikeThe8080 : Prop :=
  ∀ s : State, s.params.unusedOpcodes = .likeIntel8080 →
    let adr : Word := s.readByte .instructionFetch (s.pc + 1) ++ s.readByte .instructionFetch s.pc
    (∀ code ∈ [UnusedCode.x08, .x10, .x18, .x20, .x28, .x30, .x38], FallsThrough (.unused code) s) ∧
    (∃ t, exec (.unused .xCB) s = .next t ∧ t.pc = adr ∧ t.flags = s.flags ∧ t.sp = s.sp ∧ Frame s t [] []) ∧
    Returns (.unused .xD9) s ∧
    (∀ code ∈ [UnusedCode.xDD, .xED, .xFD], ∃ t, exec (.unused code) s = .next t ∧
      exec (.call adr) (s.setPc (s.pc + 2)) = .next t)

/-! ## Encoding -/

/-- Decoding an encoded instruction gives it back, whatever bytes follow, for every instruction and every operand
(30_encoding.md R70 to R81). -/
def Obligations.DecodeInvertsEncode : Prop :=
  ∀ (i : Instr) (rest : List Byte), i.wf = true → decode (encode i ++ rest) = .ok (i, rest)

/-- What decodes is well-formed, and its encoding is the bytes it was read from: no bit of an instruction is dropped
(30_encoding.md R81, R87). -/
def Obligations.EncodeInvertsDecode : Prop :=
  ∀ (bytes : List Byte) (i : Instr) (rest : List Byte), decode bytes = .ok (i, rest) →
    i.wf = true ∧ encode i ++ rest = bytes

/-- Of the 256 first bytes 200, 18 and 26 are instructions of one, two and three bytes and 12 are unused, with the
lengths of 30_encoding.md R74, and the first byte alone decides (R70). That an unused code has one byte is the
model's choice (log 4). -/
def Obligations.FirstByteGivesTheLength : Prop :=
  (∀ b1 : Byte, (decodeForm b1).length = lengthOf b1.toNat) ∧
  ((List.range 256).filter fun n => lengthOf n = 1 ∧ n ∉ unusedCodes.map Prod.fst).length = 200 ∧
  ((List.range 256).filter fun n => lengthOf n = 2).length = 18 ∧
  ((List.range 256).filter fun n => lengthOf n = 3).length = 26

/-- A few instructions of the spec's worked examples, written out byte by byte, decode to what they stand for. -/
def Obligations.SpecExamplesDecode : Prop :=
  decode [0x1E, 0x3A] = .ok (.mviR .e 0x3A, []) ∧ decode [0x11, 0x76, 0x3A] = .ok (.lxi .de 0x3A76, []) ∧
  decode [0x58] = .ok (.movRR .e .b, []) ∧ decode [0x80] = .ok (.addR .b, []) ∧ decode [0x96] = .ok (.subM, []) ∧
  decode [0xCA, 0x0E, 0x00] = .ok (.jz 0x000E, []) ∧ decode [0xF2, 0x40, 0x00] = .ok (.jp 0x0040, []) ∧
  decode [0xEF] = .ok (.rst 5, []) ∧ decode [0xD3, 0x02] = .ok (.outPort 2, []) ∧ decode [0xD5] = .ok (.push .de, [])

/-! ## Over all instructions -/

/-- Every byte of memory outside the addresses an instruction stores to reads as before: the addresses are those of
its write cycles (20_memory.md R43), none for an instruction that stores nothing. For the stack instructions they are
the spec's own (92 D1, D8; log 13), for the unused codes those of the instruction a code acts as (log 4). -/
def Obligations.OnlyStoreAddressesChange : Prop :=
  ∀ (i : Instr) (s t : State), s.mem.wf = true → exec i s = .next t → SameMemory s t (storeAddresses i s)

/-- An instruction that transfers no control leaves PC at `next`, and PC is saved or read by the calls and RST alone:
for every other instruction another PC changes nothing but PC (10_state.md R16). For calls, returns and RST this is the
spec's own (92 D1; log 13), for the unused codes the model's (log 4). -/
def Obligations.OnlyControlTransfersTouchPc : Prop :=
  (∀ (i : Instr) (s t : State), exec i s = .next t → transfersControl i = false → t.pc = s.pc) ∧
  (∀ (i : Instr) (s t : State) (w : Word), exec i s = .next t → usesPc i = false →
    ∃ u, exec i (s.setPc w) = .next u ∧ u.setPc 0 = t.setPc 0)

/-- An instruction leaves every flag that 10_state.md R23 does not list for it unchanged; for the instructions without
a card this is the spec's own (92 D1; log 13), for the unused codes log 4. -/
def Obligations.UnlistedFlagsKeepTheirValue : Prop :=
  ∀ (i : Instr) (s t : State), exec i s = .next t →
    (writesAllFlags i = false → writesAllButCarry i = false → writesCarryAlone i = false → t.flags = s.flags) ∧
    (writesAllButCarry i = true → t.flags.cy = s.flags.cy) ∧
    (writesCarryAlone i = true → OnlyCarry s.flags t.flags t.flags.cy)

/-- Only the destination registers of an instruction change (10_state.md R11, R14), and SP only by the instructions
10_state.md R18 lists. For the stack instructions this is the spec's own (92 D1; log 13), for the unused codes the
model's (log 4). -/
def Obligations.OnlyNamedRegistersChange : Prop :=
  ∀ (i : Instr) (s t : State), exec i s = .next t →
    SameRegs s t (destinations i) ∧ (writesSp i = false → t.sp = s.sp)

/-- INTE is written by DI alone among the instructions' own effects, ei_pending by EI and DI, halted by HLT, in_count
by IN and io_out by OUT, and no instruction writes a parameter or the environment's part. No clause is the source's:
10_state.md R27 and R29 are the spec's own choices (92 D11, D13, D14, D15, "[from general knowledge, not in source]";
log 13), the fields of `SameRun` are the model's own (log 3, 6, 7, 8, 12), and that an unused code which runs touches
none of these is the model's (log 4). -/
def Obligations.OnlyControlInstructionsTouchControl : Prop :=
  ∀ (i : Instr) (s t : State), exec i s = .next t →
    (i ≠ .di → t.inte = s.inte) ∧ (i ≠ .di → i ≠ .ei → t.eiPending = s.eiPending) ∧ (i ≠ .hlt → t.halted = s.halted) ∧
    ((∀ port, i ≠ .inPort port) → t.inCount = s.inCount) ∧ ((∀ port, i ≠ .outPort port) → t.ioOut = s.ioOut) ∧
    SameRun s t

/-- Every instruction but DAD takes as many machine cycles as it makes accesses: its bytes fetched and its data
accesses (70 R310, R311). The unused codes have no row there, and a jump not taken the cards give one cycle is left
out by JCC_NOT_TAKEN_CLOCKS = 10 (70 R312). The cycles of R311 are the spec's general knowledge and the parameter is its
own choice (92 D1, D19; log 12, log 13). -/
def Obligations.CyclesCountTheAccesses : Prop :=
  ∀ (i : Instr) (s : State), (∀ p, i ≠ .dad p) → (∀ code, i ≠ .unused code) →
    (cost i s.flags .clocks10).cycles = (encode i).length + (dataCycles i s).length

/-! ## The step -/

/-- A step with no reset, no interrupt to accept and no halt runs the instruction the bytes at PC decode to: `exec` of
it with PC past its bytes (30_encoding.md R81). What the step adds around that is not R81's: when no interrupt is
accepted, ei_pending cleared first, and INTE set after if an EI came just before and this is no DI are the spec's own
choices (60_exceptions.md R273, 92 D13, D14; log 13); that one sample of the lines is used up is the model's (log 8,
DESIGN CHOICE), and so are instrCount (log 6) and the cycle and clock counters (log 12, DESIGN CHOICE). -/
def Obligations.StepRunsTheDecodedInstruction : Prop :=
  ∀ (s : State) (i : Instr) (rest : List Byte), NoEvent s → s.halted = false → decode (codeBytes s) = .ok (i, rest) →
    step s =
      match exec i { s with
        lines := s.lines.tail, pc := s.pc + BitVec.ofNat 16 (3 - rest.length), eiPending := false } with
      | .next t => .next { t with
          inte := if s.eiPending = true ∧ i ≠ .di then true else t.inte
          instrCount := t.instrCount + 1
          cycles := t.cycles + (cost i s.flags s.params.jccNotTaken).cycles
          clocks := t.clocks + (cost i s.flags s.params.jccNotTaken).clocks }
      | .fault r => .fault r
      | .refused r => .refused r

/-- The memory's canonical form, which is the model's own (log 2): every step keeps it, whatever it does. -/
def Obligations.StepKeepsTheMemoryForm : Prop :=
  ∀ s t : State, s.mem.wf = true → step s = .next t → t.mem.wf = true

/-- The state after reset. PC, INTE, halted and ei_pending have the values of 10_state.md R36 (the spec's own choice, 92
D12; log 13), and in_count and io_out those R29 starts a run with (the spec's own choice, 92 D11; log 13). Neither rule
gives the other two clauses: that the memory has the canonical form is the model's (log 2, DESIGN CHOICE), and RAM at
every address is the spec's own default MEM_MAP (92 D10), held in `params` in the form of log 3 and log 6. The registers
and flags are "any value" in R36, and nothing is said of them here. -/
def Obligations.ResetStateHasTheSpecsValues : Prop :=
  State.reset.mem.wf = true ∧ State.reset.pc = 0 ∧ State.reset.inte = false ∧ State.reset.halted = false ∧
    State.reset.eiPending = false ∧ State.reset.inCount = 0 ∧ State.reset.ioOut = [] ∧
    ∀ a, State.reset.kindAt a = .ram

/-- A step writes no ROM and no absent cell, no parameter and no fixed answer, uses up one sample of the lines, and
only ever appends to the output trace, at most one pair (20_memory.md R46, 10_state.md R29; the form of the
parameters and the samples is the model's, log 3, log 6, log 7, log 8). That ROM and absent cells ignore writes and that
in_count and io_out record the I/O are the spec's own choices (92 D10, D11, 93 U16; log 13). -/
def Obligations.StepKeepsTheEnvironment : Prop :=
  ∀ s t : State, s.mem.wf = true → step s = .next t →
    t.params = s.params ∧ t.ioFixed = s.ioFixed ∧ t.lines = s.lines.tail ∧
      (∀ a, s.kindAt a ≠ .ram → t.mem.get a.toNat = s.mem.get a.toNat) ∧
      (∃ xs, t.ioOut = s.ioOut ++ xs ∧ xs.length ≤ 1) ∧ (t.inCount = s.inCount ∨ t.inCount = s.inCount + 1)

/-- Nothing architectural depends on the cycle and clock counters (70 R310, 92 D19; the counters are the model's own,
log 12): from any other counts a step answers the same, and they move by the same amounts. -/
def Obligations.NothingReadsTheCounters : Prop :=
  ∀ (s : State) (x y : Nat),
    (∀ t, step s = .next t → ∃ u, step { s with cycles := s.cycles + x, clocks := s.clocks + y } = .next u ∧
      u = { t with cycles := t.cycles + x, clocks := t.clocks + y }) ∧
    (∀ r, step s = .refused r → step { s with cycles := s.cycles + x, clocks := s.clocks + y } = .refused r)

/-! ## Interrupt, halt, reset: the spec's general knowledge (60_exceptions.md, 92 D12 to D15; log 13), with the
samples of the lines in the form of log 8 -/

/-- An interrupt is accepted with INTE = 1 and ei_pending = 0, halted or not (60 R273, R274, R275, R282): INTE and
halted are cleared, PC is pushed unchanged, and PC becomes 8 * n (the spec's own choice, 92 D13; that it is an RST,
log 11). The sample used up is log 8, the cycles and clocks counted log 12. -/
def Obligations.InterruptIsAccepted : Prop :=
  ∀ (s : State) (n : BitVec 3), (sampleOf s).reset = false → (sampleOf s).int = some n → s.inte = true →
    s.eiPending = false → s.mem.wf = true → ∃ t,
      step s = .next t ∧ t.inte = false ∧ t.halted = false ∧ t.eiPending = false ∧
        t.pc = BitVec.ofNat 16 (8 * n.toNat) ∧ Pushed s t (high s.pc) (low s.pc) ∧ t.flags = s.flags ∧
        SameRegs s t [] ∧ SameMemory s t [s.sp - 1, s.sp - 2] ∧ SameIo s t ∧ t.params = s.params ∧
        t.lines = s.lines.tail ∧ t.ioFixed = s.ioFixed ∧ t.instrCount = s.instrCount ∧ t.cycles = s.cycles + 3 ∧
        t.clocks = s.clocks + 11

/-- With INTE = 0, or just after EI, a request changes nothing: the step is the one without it, and it is not
remembered (60 R272, R273, the spec's own choice, 92 D13, D14; the list of samples is log 8). -/
def Obligations.MaskedRequestHasNoEffect : Prop :=
  ∀ (s : State) (n : BitVec 3) (later : List Sample), s.inte = false ∨ s.eiPending = true →
    step { s with lines := ⟨false, some n⟩ :: later } = step { s with lines := ⟨false, none⟩ :: later }

/-- The instruction after EI runs whatever is requested, and INTE is 1 when it has completed, unless it is DI
(44 R262, 60 R273, 70 R304, the spec's own choice, 92 D14; for an unused code that runs, log 4). -/
def Obligations.EnableTakesEffectOneInstructionLater : Prop :=
  ∀ (s t : State) (i : Instr) (rest : List Byte), s.eiPending = true → s.halted = false → (sampleOf s).reset = false →
    decode (codeBytes s) = .ok (i, rest) → step s = .next t →
      (i = .di → t.inte = false ∧ t.eiPending = false) ∧ (i ≠ .di → t.inte = true) ∧
        (i ≠ .di → (t.eiPending = true ↔ i = .ei)) ∧ (t.halted = true ↔ i = .hlt)

/-- A handler's RET comes back to the address that would have run next (60 R276, R278, R282; the spec's own choice, 92
D13, D15; log 13), where the two cells below SP are RAM. Run at once after the acceptance, it finds SP, the registers
and the flags as they were and leaves INTE 0. Run by a step after any number of steps of a handler that left SP and the
two bytes there as at its entry, it gives PC and SP back and leaves the registers, the flags and memory as the handler
left them, since nothing but the handler's own POPs restores them (R278); INTE is the handler's too, 1 if its last
instruction was EI (92 D14). -/
def Obligations.ReturnFromHandlerResumes : Prop :=
  ∀ (s t : State) (n : BitVec 3), (sampleOf s).reset = false → (sampleOf s).int = some n → s.inte = true →
    s.eiPending = false → s.mem.wf = true → s.kindAt (s.sp - 1) = .ram → s.kindAt (s.sp - 2) = .ram → step s = .next t →
      (∃ u, exec .ret t = .next u ∧ u.pc = s.pc ∧ u.sp = s.sp ∧ u.regs = s.regs ∧ u.flags = s.flags ∧ u.inte = false ∧
        u.halted = false) ∧
      (∀ (k : Nat) (v : State) (rest : List Byte), stepN k t = some v → v.sp = t.sp → topLow v = topLow t →
        topHigh v = topHigh t → NoEvent v → v.halted = false → decode (codeBytes v) = .ok (.ret, rest) →
          ∃ u, step v = .next u ∧ u.pc = s.pc ∧ u.sp = s.sp ∧ u.regs = v.regs ∧ u.flags = v.flags ∧ u.mem = v.mem ∧
            u.halted = false ∧ u.eiPending = false ∧ (v.eiPending = false → u.inte = v.inte) ∧
            (v.eiPending = true → u.inte = true))

/-- A halted processor with INTE = 0 is stuck until reset, whatever is requested; so is one to which no request comes
(60 R282, R283, the spec's own choice, 92 D15; log 13): after any number of steps nothing has changed but the samples
used up (log 8). -/
def Obligations.HaltWithoutInterruptIsForGood : Prop :=
  ∀ (s : State) (k : Nat), s.halted = true → (∀ l ∈ s.lines, l.reset = false) →
    (s.inte = false ∨ s.eiPending = true ∨ ∀ l ∈ s.lines, l.int = none) →
      stepN k s = some { s with lines := s.lines.drop k }

/-- Reset overrides everything: PC, INTE, halted and ei_pending, and nothing else (70 R300, 60 R277, the spec's own
choice, 92 D12; that a reset takes one whole step and one sample is the model's, log 8, log 9). -/
def Obligations.ResetWritesFourThings : Prop :=
  ∀ s : State, (sampleOf s).reset = true →
    step s = .next { s with pc := 0, inte := false, halted := false, eiPending := false, lines := s.lines.tail }

/-- A run has ended as Halted exactly when it is halted and no interrupt will arrive: no request is to come, or INTE = 0
or, which no run reaches, ei_pending = 1 (60 R283, R284, 93 U12; a reset to come keeps no run from ending, a request
after it does, log 17). A run that has ended ends the same way under every larger budget of steps, and a run that ends
halted never met an unused code. All of it is the spec's own choice (92 D15, D20). -/
def Obligations.RunEndIsFinal : Prop :=
  ∀ (k m : Nat) (s : State),
    (s.halted = true → (s.inte = false ∨ s.eiPending = true ∨ ∀ l ∈ s.lines, l.int = none) →
      runEnd k s = .halted s) ∧
    (∀ u, runEnd k s = .halted u → runEnd (k + m) s = .halted u ∧ u.halted = true ∧
      (u.inte = false ∨ u.eiPending = true ∨ ∀ l ∈ u.lines, l.int = none) ∧ ∃ j, j ≤ k ∧ stepN j s = some u) ∧
    (∀ b u, runEnd k s = .unusedOpcode b u → runEnd (k + m) s = .unusedOpcode b u ∧
      step u = .refused (.unusedOpcode b) ∧ ∃ j, j < k ∧ stepN j s = some u) ∧
    runEnd k s ≠ .other
end

