-- ==== Sys2Proof/Laws/State.lean ====
section
/-! SUPPORT. One lemma per field per update of the state, true by unfolding once, so that no later proof unfolds a
record update; and the memory each update leaves. -/

namespace Sys2Proof.Machine

/-! ### setReg -/

@[simp] theorem State.setReg_regs (s : State) (r : Reg8) (v : Byte) : (s.setReg r v).regs = s.regs.set r v := rfl
@[simp] theorem State.setReg_flags (s : State) (r : Reg8) (v : Byte) : (s.setReg r v).flags = s.flags := rfl
@[simp] theorem State.setReg_sp (s : State) (r : Reg8) (v : Byte) : (s.setReg r v).sp = s.sp := rfl
@[simp] theorem State.setReg_pc (s : State) (r : Reg8) (v : Byte) : (s.setReg r v).pc = s.pc := rfl
@[simp] theorem State.setReg_inte (s : State) (r : Reg8) (v : Byte) : (s.setReg r v).inte = s.inte := rfl
@[simp] theorem State.setReg_eiPending (s : State) (r : Reg8) (v : Byte) : (s.setReg r v).eiPending = s.eiPending := rfl
@[simp] theorem State.setReg_halted (s : State) (r : Reg8) (v : Byte) : (s.setReg r v).halted = s.halted := rfl
@[simp] theorem State.setReg_mem (s : State) (r : Reg8) (v : Byte) : (s.setReg r v).mem = s.mem := rfl
@[simp] theorem State.setReg_inCount (s : State) (r : Reg8) (v : Byte) : (s.setReg r v).inCount = s.inCount := rfl
@[simp] theorem State.setReg_ioOut (s : State) (r : Reg8) (v : Byte) : (s.setReg r v).ioOut = s.ioOut := rfl
@[simp] theorem State.setReg_params (s : State) (r : Reg8) (v : Byte) : (s.setReg r v).params = s.params := rfl
@[simp] theorem State.setReg_lines (s : State) (r : Reg8) (v : Byte) : (s.setReg r v).lines = s.lines := rfl
@[simp] theorem State.setReg_ioFixed (s : State) (r : Reg8) (v : Byte) : (s.setReg r v).ioFixed = s.ioFixed := rfl
@[simp] theorem State.setReg_instrCount (s : State) (r : Reg8) (v : Byte) : (s.setReg r v).instrCount = s.instrCount := rfl
@[simp] theorem State.setReg_cycles (s : State) (r : Reg8) (v : Byte) : (s.setReg r v).cycles = s.cycles := rfl
@[simp] theorem State.setReg_clocks (s : State) (r : Reg8) (v : Byte) : (s.setReg r v).clocks = s.clocks := rfl

/-! ### setPair -/

@[simp] theorem State.setPair_regs (s : State) (p : Pair) (w : Word) : (s.setPair p w).regs = (s.regs.set (pairHigh p) (hi8 w)).set (pairLow p) (lo8 w) := rfl
@[simp] theorem State.setPair_flags (s : State) (p : Pair) (w : Word) : (s.setPair p w).flags = s.flags := rfl
@[simp] theorem State.setPair_sp (s : State) (p : Pair) (w : Word) : (s.setPair p w).sp = s.sp := rfl
@[simp] theorem State.setPair_pc (s : State) (p : Pair) (w : Word) : (s.setPair p w).pc = s.pc := rfl
@[simp] theorem State.setPair_inte (s : State) (p : Pair) (w : Word) : (s.setPair p w).inte = s.inte := rfl
@[simp] theorem State.setPair_eiPending (s : State) (p : Pair) (w : Word) : (s.setPair p w).eiPending = s.eiPending := rfl
@[simp] theorem State.setPair_halted (s : State) (p : Pair) (w : Word) : (s.setPair p w).halted = s.halted := rfl
@[simp] theorem State.setPair_mem (s : State) (p : Pair) (w : Word) : (s.setPair p w).mem = s.mem := rfl
@[simp] theorem State.setPair_inCount (s : State) (p : Pair) (w : Word) : (s.setPair p w).inCount = s.inCount := rfl
@[simp] theorem State.setPair_ioOut (s : State) (p : Pair) (w : Word) : (s.setPair p w).ioOut = s.ioOut := rfl
@[simp] theorem State.setPair_params (s : State) (p : Pair) (w : Word) : (s.setPair p w).params = s.params := rfl
@[simp] theorem State.setPair_lines (s : State) (p : Pair) (w : Word) : (s.setPair p w).lines = s.lines := rfl
@[simp] theorem State.setPair_ioFixed (s : State) (p : Pair) (w : Word) : (s.setPair p w).ioFixed = s.ioFixed := rfl
@[simp] theorem State.setPair_instrCount (s : State) (p : Pair) (w : Word) : (s.setPair p w).instrCount = s.instrCount := rfl
@[simp] theorem State.setPair_cycles (s : State) (p : Pair) (w : Word) : (s.setPair p w).cycles = s.cycles := rfl
@[simp] theorem State.setPair_clocks (s : State) (p : Pair) (w : Word) : (s.setPair p w).clocks = s.clocks := rfl

/-! ### setSp -/

@[simp] theorem State.setSp_regs (s : State) (w : Word) : (s.setSp w).regs = s.regs := rfl
@[simp] theorem State.setSp_flags (s : State) (w : Word) : (s.setSp w).flags = s.flags := rfl
@[simp] theorem State.setSp_sp (s : State) (w : Word) : (s.setSp w).sp = w := rfl
@[simp] theorem State.setSp_pc (s : State) (w : Word) : (s.setSp w).pc = s.pc := rfl
@[simp] theorem State.setSp_inte (s : State) (w : Word) : (s.setSp w).inte = s.inte := rfl
@[simp] theorem State.setSp_eiPending (s : State) (w : Word) : (s.setSp w).eiPending = s.eiPending := rfl
@[simp] theorem State.setSp_halted (s : State) (w : Word) : (s.setSp w).halted = s.halted := rfl
@[simp] theorem State.setSp_mem (s : State) (w : Word) : (s.setSp w).mem = s.mem := rfl
@[simp] theorem State.setSp_inCount (s : State) (w : Word) : (s.setSp w).inCount = s.inCount := rfl
@[simp] theorem State.setSp_ioOut (s : State) (w : Word) : (s.setSp w).ioOut = s.ioOut := rfl
@[simp] theorem State.setSp_params (s : State) (w : Word) : (s.setSp w).params = s.params := rfl
@[simp] theorem State.setSp_lines (s : State) (w : Word) : (s.setSp w).lines = s.lines := rfl
@[simp] theorem State.setSp_ioFixed (s : State) (w : Word) : (s.setSp w).ioFixed = s.ioFixed := rfl
@[simp] theorem State.setSp_instrCount (s : State) (w : Word) : (s.setSp w).instrCount = s.instrCount := rfl
@[simp] theorem State.setSp_cycles (s : State) (w : Word) : (s.setSp w).cycles = s.cycles := rfl
@[simp] theorem State.setSp_clocks (s : State) (w : Word) : (s.setSp w).clocks = s.clocks := rfl

/-! ### setRp -/

@[simp] theorem State.setRp_flags (s : State) (r : Rp) (w : Word) : (s.setRp r w).flags = s.flags := by cases r <;> rfl
@[simp] theorem State.setRp_pc (s : State) (r : Rp) (w : Word) : (s.setRp r w).pc = s.pc := by cases r <;> rfl
@[simp] theorem State.setRp_inte (s : State) (r : Rp) (w : Word) : (s.setRp r w).inte = s.inte := by cases r <;> rfl
@[simp] theorem State.setRp_eiPending (s : State) (r : Rp) (w : Word) : (s.setRp r w).eiPending = s.eiPending := by cases r <;> rfl
@[simp] theorem State.setRp_halted (s : State) (r : Rp) (w : Word) : (s.setRp r w).halted = s.halted := by cases r <;> rfl
@[simp] theorem State.setRp_mem (s : State) (r : Rp) (w : Word) : (s.setRp r w).mem = s.mem := by cases r <;> rfl
@[simp] theorem State.setRp_inCount (s : State) (r : Rp) (w : Word) : (s.setRp r w).inCount = s.inCount := by cases r <;> rfl
@[simp] theorem State.setRp_ioOut (s : State) (r : Rp) (w : Word) : (s.setRp r w).ioOut = s.ioOut := by cases r <;> rfl
@[simp] theorem State.setRp_params (s : State) (r : Rp) (w : Word) : (s.setRp r w).params = s.params := by cases r <;> rfl
@[simp] theorem State.setRp_lines (s : State) (r : Rp) (w : Word) : (s.setRp r w).lines = s.lines := by cases r <;> rfl
@[simp] theorem State.setRp_ioFixed (s : State) (r : Rp) (w : Word) : (s.setRp r w).ioFixed = s.ioFixed := by cases r <;> rfl
@[simp] theorem State.setRp_instrCount (s : State) (r : Rp) (w : Word) : (s.setRp r w).instrCount = s.instrCount := by cases r <;> rfl
@[simp] theorem State.setRp_cycles (s : State) (r : Rp) (w : Word) : (s.setRp r w).cycles = s.cycles := by cases r <;> rfl
@[simp] theorem State.setRp_clocks (s : State) (r : Rp) (w : Word) : (s.setRp r w).clocks = s.clocks := by cases r <;> rfl

@[simp] theorem State.setRp_bc (s : State) (w : Word) : s.setRp .bc w = s.setPair .bc w := rfl
@[simp] theorem State.setRp_de (s : State) (w : Word) : s.setRp .de w = s.setPair .de w := rfl
@[simp] theorem State.setRp_hl (s : State) (w : Word) : s.setRp .hl w = s.setPair .hl w := rfl
@[simp] theorem State.setRp_sp (s : State) (w : Word) : s.setRp .sp w = s.setSp w := rfl

/-! ### setPc -/

@[simp] theorem State.setPc_regs (s : State) (w : Word) : (s.setPc w).regs = s.regs := rfl
@[simp] theorem State.setPc_flags (s : State) (w : Word) : (s.setPc w).flags = s.flags := rfl
@[simp] theorem State.setPc_sp (s : State) (w : Word) : (s.setPc w).sp = s.sp := rfl
@[simp] theorem State.setPc_pc (s : State) (w : Word) : (s.setPc w).pc = w := rfl
@[simp] theorem State.setPc_inte (s : State) (w : Word) : (s.setPc w).inte = s.inte := rfl
@[simp] theorem State.setPc_eiPending (s : State) (w : Word) : (s.setPc w).eiPending = s.eiPending := rfl
@[simp] theorem State.setPc_halted (s : State) (w : Word) : (s.setPc w).halted = s.halted := rfl
@[simp] theorem State.setPc_mem (s : State) (w : Word) : (s.setPc w).mem = s.mem := rfl
@[simp] theorem State.setPc_inCount (s : State) (w : Word) : (s.setPc w).inCount = s.inCount := rfl
@[simp] theorem State.setPc_ioOut (s : State) (w : Word) : (s.setPc w).ioOut = s.ioOut := rfl
@[simp] theorem State.setPc_params (s : State) (w : Word) : (s.setPc w).params = s.params := rfl
@[simp] theorem State.setPc_lines (s : State) (w : Word) : (s.setPc w).lines = s.lines := rfl
@[simp] theorem State.setPc_ioFixed (s : State) (w : Word) : (s.setPc w).ioFixed = s.ioFixed := rfl
@[simp] theorem State.setPc_instrCount (s : State) (w : Word) : (s.setPc w).instrCount = s.instrCount := rfl
@[simp] theorem State.setPc_cycles (s : State) (w : Word) : (s.setPc w).cycles = s.cycles := rfl
@[simp] theorem State.setPc_clocks (s : State) (w : Word) : (s.setPc w).clocks = s.clocks := rfl

/-! ### setFlags -/

@[simp] theorem State.setFlags_regs (s : State) (f : Flags) : (s.setFlags f).regs = s.regs := rfl
@[simp] theorem State.setFlags_flags (s : State) (f : Flags) : (s.setFlags f).flags = f := rfl
@[simp] theorem State.setFlags_sp (s : State) (f : Flags) : (s.setFlags f).sp = s.sp := rfl
@[simp] theorem State.setFlags_pc (s : State) (f : Flags) : (s.setFlags f).pc = s.pc := rfl
@[simp] theorem State.setFlags_inte (s : State) (f : Flags) : (s.setFlags f).inte = s.inte := rfl
@[simp] theorem State.setFlags_eiPending (s : State) (f : Flags) : (s.setFlags f).eiPending = s.eiPending := rfl
@[simp] theorem State.setFlags_halted (s : State) (f : Flags) : (s.setFlags f).halted = s.halted := rfl
@[simp] theorem State.setFlags_mem (s : State) (f : Flags) : (s.setFlags f).mem = s.mem := rfl
@[simp] theorem State.setFlags_inCount (s : State) (f : Flags) : (s.setFlags f).inCount = s.inCount := rfl
@[simp] theorem State.setFlags_ioOut (s : State) (f : Flags) : (s.setFlags f).ioOut = s.ioOut := rfl
@[simp] theorem State.setFlags_params (s : State) (f : Flags) : (s.setFlags f).params = s.params := rfl
@[simp] theorem State.setFlags_lines (s : State) (f : Flags) : (s.setFlags f).lines = s.lines := rfl
@[simp] theorem State.setFlags_ioFixed (s : State) (f : Flags) : (s.setFlags f).ioFixed = s.ioFixed := rfl
@[simp] theorem State.setFlags_instrCount (s : State) (f : Flags) : (s.setFlags f).instrCount = s.instrCount := rfl
@[simp] theorem State.setFlags_cycles (s : State) (f : Flags) : (s.setFlags f).cycles = s.cycles := rfl
@[simp] theorem State.setFlags_clocks (s : State) (f : Flags) : (s.setFlags f).clocks = s.clocks := rfl

/-! ### writeByte -/

@[simp] theorem State.writeByte_regs (s : State) (a : Word) (v : Byte) : (s.writeByte a v).regs = s.regs := rfl
@[simp] theorem State.writeByte_flags (s : State) (a : Word) (v : Byte) : (s.writeByte a v).flags = s.flags := rfl
@[simp] theorem State.writeByte_sp (s : State) (a : Word) (v : Byte) : (s.writeByte a v).sp = s.sp := rfl
@[simp] theorem State.writeByte_pc (s : State) (a : Word) (v : Byte) : (s.writeByte a v).pc = s.pc := rfl
@[simp] theorem State.writeByte_inte (s : State) (a : Word) (v : Byte) : (s.writeByte a v).inte = s.inte := rfl
@[simp] theorem State.writeByte_eiPending (s : State) (a : Word) (v : Byte) : (s.writeByte a v).eiPending = s.eiPending := rfl
@[simp] theorem State.writeByte_halted (s : State) (a : Word) (v : Byte) : (s.writeByte a v).halted = s.halted := rfl
@[simp] theorem State.writeByte_mem (s : State) (a : Word) (v : Byte) : (s.writeByte a v).mem = s.memAfter a v := rfl
@[simp] theorem State.writeByte_inCount (s : State) (a : Word) (v : Byte) : (s.writeByte a v).inCount = s.inCount := rfl
@[simp] theorem State.writeByte_ioOut (s : State) (a : Word) (v : Byte) : (s.writeByte a v).ioOut = s.ioOut := rfl
@[simp] theorem State.writeByte_params (s : State) (a : Word) (v : Byte) : (s.writeByte a v).params = s.params := rfl
@[simp] theorem State.writeByte_lines (s : State) (a : Word) (v : Byte) : (s.writeByte a v).lines = s.lines := rfl
@[simp] theorem State.writeByte_ioFixed (s : State) (a : Word) (v : Byte) : (s.writeByte a v).ioFixed = s.ioFixed := rfl
@[simp] theorem State.writeByte_instrCount (s : State) (a : Word) (v : Byte) : (s.writeByte a v).instrCount = s.instrCount := rfl
@[simp] theorem State.writeByte_cycles (s : State) (a : Word) (v : Byte) : (s.writeByte a v).cycles = s.cycles := rfl
@[simp] theorem State.writeByte_clocks (s : State) (a : Word) (v : Byte) : (s.writeByte a v).clocks = s.clocks := rfl

/-! ### setAcc -/

@[simp] theorem State.setAcc_regs (s : State) (r : AluResult) : (s.setAcc r).regs = s.regs.set .a r.val := rfl
@[simp] theorem State.setAcc_flags (s : State) (r : AluResult) : (s.setAcc r).flags = r.flags := rfl
@[simp] theorem State.setAcc_sp (s : State) (r : AluResult) : (s.setAcc r).sp = s.sp := rfl
@[simp] theorem State.setAcc_pc (s : State) (r : AluResult) : (s.setAcc r).pc = s.pc := rfl
@[simp] theorem State.setAcc_inte (s : State) (r : AluResult) : (s.setAcc r).inte = s.inte := rfl
@[simp] theorem State.setAcc_eiPending (s : State) (r : AluResult) : (s.setAcc r).eiPending = s.eiPending := rfl
@[simp] theorem State.setAcc_halted (s : State) (r : AluResult) : (s.setAcc r).halted = s.halted := rfl
@[simp] theorem State.setAcc_mem (s : State) (r : AluResult) : (s.setAcc r).mem = s.mem := rfl
@[simp] theorem State.setAcc_inCount (s : State) (r : AluResult) : (s.setAcc r).inCount = s.inCount := rfl
@[simp] theorem State.setAcc_ioOut (s : State) (r : AluResult) : (s.setAcc r).ioOut = s.ioOut := rfl
@[simp] theorem State.setAcc_params (s : State) (r : AluResult) : (s.setAcc r).params = s.params := rfl
@[simp] theorem State.setAcc_lines (s : State) (r : AluResult) : (s.setAcc r).lines = s.lines := rfl
@[simp] theorem State.setAcc_ioFixed (s : State) (r : AluResult) : (s.setAcc r).ioFixed = s.ioFixed := rfl
@[simp] theorem State.setAcc_instrCount (s : State) (r : AluResult) : (s.setAcc r).instrCount = s.instrCount := rfl
@[simp] theorem State.setAcc_cycles (s : State) (r : AluResult) : (s.setAcc r).cycles = s.cycles := rfl
@[simp] theorem State.setAcc_clocks (s : State) (r : AluResult) : (s.setAcc r).clocks = s.clocks := rfl

/-! ### setRotated -/

@[simp] theorem State.setRotated_regs (s : State) (r : Byte × Bool) : (s.setRotated r).regs = s.regs.set .a r.1 := rfl
@[simp] theorem State.setRotated_flags (s : State) (r : Byte × Bool) : (s.setRotated r).flags = { s.flags with cy := r.2 } := rfl
@[simp] theorem State.setRotated_sp (s : State) (r : Byte × Bool) : (s.setRotated r).sp = s.sp := rfl
@[simp] theorem State.setRotated_pc (s : State) (r : Byte × Bool) : (s.setRotated r).pc = s.pc := rfl
@[simp] theorem State.setRotated_inte (s : State) (r : Byte × Bool) : (s.setRotated r).inte = s.inte := rfl
@[simp] theorem State.setRotated_eiPending (s : State) (r : Byte × Bool) : (s.setRotated r).eiPending = s.eiPending := rfl
@[simp] theorem State.setRotated_halted (s : State) (r : Byte × Bool) : (s.setRotated r).halted = s.halted := rfl
@[simp] theorem State.setRotated_mem (s : State) (r : Byte × Bool) : (s.setRotated r).mem = s.mem := rfl
@[simp] theorem State.setRotated_inCount (s : State) (r : Byte × Bool) : (s.setRotated r).inCount = s.inCount := rfl
@[simp] theorem State.setRotated_ioOut (s : State) (r : Byte × Bool) : (s.setRotated r).ioOut = s.ioOut := rfl
@[simp] theorem State.setRotated_params (s : State) (r : Byte × Bool) : (s.setRotated r).params = s.params := rfl
@[simp] theorem State.setRotated_lines (s : State) (r : Byte × Bool) : (s.setRotated r).lines = s.lines := rfl
@[simp] theorem State.setRotated_ioFixed (s : State) (r : Byte × Bool) : (s.setRotated r).ioFixed = s.ioFixed := rfl
@[simp] theorem State.setRotated_instrCount (s : State) (r : Byte × Bool) : (s.setRotated r).instrCount = s.instrCount := rfl
@[simp] theorem State.setRotated_cycles (s : State) (r : Byte × Bool) : (s.setRotated r).cycles = s.cycles := rfl
@[simp] theorem State.setRotated_clocks (s : State) (r : Byte × Bool) : (s.setRotated r).clocks = s.clocks := rfl

/-! ### push16 -/

@[simp] theorem State.push16_regs (s : State) (w : Word) : (s.push16 w).regs = s.regs := rfl
@[simp] theorem State.push16_flags (s : State) (w : Word) : (s.push16 w).flags = s.flags := rfl
@[simp] theorem State.push16_sp (s : State) (w : Word) : (s.push16 w).sp = s.sp - 2 := rfl
@[simp] theorem State.push16_pc (s : State) (w : Word) : (s.push16 w).pc = s.pc := rfl
@[simp] theorem State.push16_inte (s : State) (w : Word) : (s.push16 w).inte = s.inte := rfl
@[simp] theorem State.push16_eiPending (s : State) (w : Word) : (s.push16 w).eiPending = s.eiPending := rfl
@[simp] theorem State.push16_halted (s : State) (w : Word) : (s.push16 w).halted = s.halted := rfl
@[simp] theorem State.push16_mem (s : State) (w : Word) : (s.push16 w).mem = ((s.writeByte (s.sp - 1) (hi8 w)).writeByte (s.sp - 2) (lo8 w)).mem := rfl
@[simp] theorem State.push16_inCount (s : State) (w : Word) : (s.push16 w).inCount = s.inCount := rfl
@[simp] theorem State.push16_ioOut (s : State) (w : Word) : (s.push16 w).ioOut = s.ioOut := rfl
@[simp] theorem State.push16_params (s : State) (w : Word) : (s.push16 w).params = s.params := rfl
@[simp] theorem State.push16_lines (s : State) (w : Word) : (s.push16 w).lines = s.lines := rfl
@[simp] theorem State.push16_ioFixed (s : State) (w : Word) : (s.push16 w).ioFixed = s.ioFixed := rfl
@[simp] theorem State.push16_instrCount (s : State) (w : Word) : (s.push16 w).instrCount = s.instrCount := rfl
@[simp] theorem State.push16_cycles (s : State) (w : Word) : (s.push16 w).cycles = s.cycles := rfl
@[simp] theorem State.push16_clocks (s : State) (w : Word) : (s.push16 w).clocks = s.clocks := rfl

/-! ### drop16 -/

@[simp] theorem State.drop16_regs (s : State) : (s.drop16).regs = s.regs := rfl
@[simp] theorem State.drop16_flags (s : State) : (s.drop16).flags = s.flags := rfl
@[simp] theorem State.drop16_sp (s : State) : (s.drop16).sp = s.sp + 2 := rfl
@[simp] theorem State.drop16_pc (s : State) : (s.drop16).pc = s.pc := rfl
@[simp] theorem State.drop16_inte (s : State) : (s.drop16).inte = s.inte := rfl
@[simp] theorem State.drop16_eiPending (s : State) : (s.drop16).eiPending = s.eiPending := rfl
@[simp] theorem State.drop16_halted (s : State) : (s.drop16).halted = s.halted := rfl
@[simp] theorem State.drop16_mem (s : State) : (s.drop16).mem = s.mem := rfl
@[simp] theorem State.drop16_inCount (s : State) : (s.drop16).inCount = s.inCount := rfl
@[simp] theorem State.drop16_ioOut (s : State) : (s.drop16).ioOut = s.ioOut := rfl
@[simp] theorem State.drop16_params (s : State) : (s.drop16).params = s.params := rfl
@[simp] theorem State.drop16_lines (s : State) : (s.drop16).lines = s.lines := rfl
@[simp] theorem State.drop16_ioFixed (s : State) : (s.drop16).ioFixed = s.ioFixed := rfl
@[simp] theorem State.drop16_instrCount (s : State) : (s.drop16).instrCount = s.instrCount := rfl
@[simp] theorem State.drop16_cycles (s : State) : (s.drop16).cycles = s.cycles := rfl
@[simp] theorem State.drop16_clocks (s : State) : (s.drop16).clocks = s.clocks := rfl

/-! ### advance -/

@[simp] theorem State.advance_regs (s : State) (len : Nat) : (s.advance len).regs = s.regs := rfl
@[simp] theorem State.advance_flags (s : State) (len : Nat) : (s.advance len).flags = s.flags := rfl
@[simp] theorem State.advance_sp (s : State) (len : Nat) : (s.advance len).sp = s.sp := rfl
@[simp] theorem State.advance_pc (s : State) (len : Nat) : (s.advance len).pc = s.pc + BitVec.ofNat 16 len := rfl
@[simp] theorem State.advance_inte (s : State) (len : Nat) : (s.advance len).inte = s.inte := rfl
@[simp] theorem State.advance_eiPending (s : State) (len : Nat) : (s.advance len).eiPending = false := rfl
@[simp] theorem State.advance_halted (s : State) (len : Nat) : (s.advance len).halted = s.halted := rfl
@[simp] theorem State.advance_mem (s : State) (len : Nat) : (s.advance len).mem = s.mem := rfl
@[simp] theorem State.advance_inCount (s : State) (len : Nat) : (s.advance len).inCount = s.inCount := rfl
@[simp] theorem State.advance_ioOut (s : State) (len : Nat) : (s.advance len).ioOut = s.ioOut := rfl
@[simp] theorem State.advance_params (s : State) (len : Nat) : (s.advance len).params = s.params := rfl
@[simp] theorem State.advance_lines (s : State) (len : Nat) : (s.advance len).lines = s.lines := rfl
@[simp] theorem State.advance_ioFixed (s : State) (len : Nat) : (s.advance len).ioFixed = s.ioFixed := rfl
@[simp] theorem State.advance_instrCount (s : State) (len : Nat) : (s.advance len).instrCount = s.instrCount := rfl
@[simp] theorem State.advance_cycles (s : State) (len : Nat) : (s.advance len).cycles = s.cycles := rfl
@[simp] theorem State.advance_clocks (s : State) (len : Nat) : (s.advance len).clocks = s.clocks := rfl

/-! ### enableAfter -/

@[simp] theorem State.enableAfter_regs (s : State) (p : Bool) (i : Instr) : (s.enableAfter p i).regs = s.regs := rfl
@[simp] theorem State.enableAfter_flags (s : State) (p : Bool) (i : Instr) : (s.enableAfter p i).flags = s.flags := rfl
@[simp] theorem State.enableAfter_sp (s : State) (p : Bool) (i : Instr) : (s.enableAfter p i).sp = s.sp := rfl
@[simp] theorem State.enableAfter_pc (s : State) (p : Bool) (i : Instr) : (s.enableAfter p i).pc = s.pc := rfl
@[simp] theorem State.enableAfter_inte (s : State) (p : Bool) (i : Instr) : (s.enableAfter p i).inte = if p = true ∧ i ≠ .di then true else s.inte := rfl
@[simp] theorem State.enableAfter_eiPending (s : State) (p : Bool) (i : Instr) : (s.enableAfter p i).eiPending = s.eiPending := rfl
@[simp] theorem State.enableAfter_halted (s : State) (p : Bool) (i : Instr) : (s.enableAfter p i).halted = s.halted := rfl
@[simp] theorem State.enableAfter_mem (s : State) (p : Bool) (i : Instr) : (s.enableAfter p i).mem = s.mem := rfl
@[simp] theorem State.enableAfter_inCount (s : State) (p : Bool) (i : Instr) : (s.enableAfter p i).inCount = s.inCount := rfl
@[simp] theorem State.enableAfter_ioOut (s : State) (p : Bool) (i : Instr) : (s.enableAfter p i).ioOut = s.ioOut := rfl
@[simp] theorem State.enableAfter_params (s : State) (p : Bool) (i : Instr) : (s.enableAfter p i).params = s.params := rfl
@[simp] theorem State.enableAfter_lines (s : State) (p : Bool) (i : Instr) : (s.enableAfter p i).lines = s.lines := rfl
@[simp] theorem State.enableAfter_ioFixed (s : State) (p : Bool) (i : Instr) : (s.enableAfter p i).ioFixed = s.ioFixed := rfl
@[simp] theorem State.enableAfter_instrCount (s : State) (p : Bool) (i : Instr) : (s.enableAfter p i).instrCount = s.instrCount := rfl
@[simp] theorem State.enableAfter_cycles (s : State) (p : Bool) (i : Instr) : (s.enableAfter p i).cycles = s.cycles := rfl
@[simp] theorem State.enableAfter_clocks (s : State) (p : Bool) (i : Instr) : (s.enableAfter p i).clocks = s.clocks := rfl

/-! ### countInstr -/

@[simp] theorem State.countInstr_regs (s : State) (c : Cost) : (s.countInstr c).regs = s.regs := rfl
@[simp] theorem State.countInstr_flags (s : State) (c : Cost) : (s.countInstr c).flags = s.flags := rfl
@[simp] theorem State.countInstr_sp (s : State) (c : Cost) : (s.countInstr c).sp = s.sp := rfl
@[simp] theorem State.countInstr_pc (s : State) (c : Cost) : (s.countInstr c).pc = s.pc := rfl
@[simp] theorem State.countInstr_inte (s : State) (c : Cost) : (s.countInstr c).inte = s.inte := rfl
@[simp] theorem State.countInstr_eiPending (s : State) (c : Cost) : (s.countInstr c).eiPending = s.eiPending := rfl
@[simp] theorem State.countInstr_halted (s : State) (c : Cost) : (s.countInstr c).halted = s.halted := rfl
@[simp] theorem State.countInstr_mem (s : State) (c : Cost) : (s.countInstr c).mem = s.mem := rfl
@[simp] theorem State.countInstr_inCount (s : State) (c : Cost) : (s.countInstr c).inCount = s.inCount := rfl
@[simp] theorem State.countInstr_ioOut (s : State) (c : Cost) : (s.countInstr c).ioOut = s.ioOut := rfl
@[simp] theorem State.countInstr_params (s : State) (c : Cost) : (s.countInstr c).params = s.params := rfl
@[simp] theorem State.countInstr_lines (s : State) (c : Cost) : (s.countInstr c).lines = s.lines := rfl
@[simp] theorem State.countInstr_ioFixed (s : State) (c : Cost) : (s.countInstr c).ioFixed = s.ioFixed := rfl
@[simp] theorem State.countInstr_instrCount (s : State) (c : Cost) : (s.countInstr c).instrCount = s.instrCount + 1 := rfl
@[simp] theorem State.countInstr_cycles (s : State) (c : Cost) : (s.countInstr c).cycles = s.cycles + c.cycles := rfl
@[simp] theorem State.countInstr_clocks (s : State) (c : Cost) : (s.countInstr c).clocks = s.clocks + c.clocks := rfl

/-! ### countInterrupt -/

@[simp] theorem State.countInterrupt_regs (s : State) : (s.countInterrupt).regs = s.regs := rfl
@[simp] theorem State.countInterrupt_flags (s : State) : (s.countInterrupt).flags = s.flags := rfl
@[simp] theorem State.countInterrupt_sp (s : State) : (s.countInterrupt).sp = s.sp := rfl
@[simp] theorem State.countInterrupt_pc (s : State) : (s.countInterrupt).pc = s.pc := rfl
@[simp] theorem State.countInterrupt_inte (s : State) : (s.countInterrupt).inte = s.inte := rfl
@[simp] theorem State.countInterrupt_eiPending (s : State) : (s.countInterrupt).eiPending = s.eiPending := rfl
@[simp] theorem State.countInterrupt_halted (s : State) : (s.countInterrupt).halted = s.halted := rfl
@[simp] theorem State.countInterrupt_mem (s : State) : (s.countInterrupt).mem = s.mem := rfl
@[simp] theorem State.countInterrupt_inCount (s : State) : (s.countInterrupt).inCount = s.inCount := rfl
@[simp] theorem State.countInterrupt_ioOut (s : State) : (s.countInterrupt).ioOut = s.ioOut := rfl
@[simp] theorem State.countInterrupt_params (s : State) : (s.countInterrupt).params = s.params := rfl
@[simp] theorem State.countInterrupt_lines (s : State) : (s.countInterrupt).lines = s.lines := rfl
@[simp] theorem State.countInterrupt_ioFixed (s : State) : (s.countInterrupt).ioFixed = s.ioFixed := rfl
@[simp] theorem State.countInterrupt_instrCount (s : State) : (s.countInterrupt).instrCount = s.instrCount := rfl
@[simp] theorem State.countInterrupt_cycles (s : State) : (s.countInterrupt).cycles = s.cycles + 3 := rfl
@[simp] theorem State.countInterrupt_clocks (s : State) : (s.countInterrupt).clocks = s.clocks + 11 := rfl

/-! ### pulledReset -/

@[simp] theorem State.pulledReset_regs (s : State) : (s.pulledReset).regs = s.regs := rfl
@[simp] theorem State.pulledReset_flags (s : State) : (s.pulledReset).flags = s.flags := rfl
@[simp] theorem State.pulledReset_sp (s : State) : (s.pulledReset).sp = s.sp := rfl
@[simp] theorem State.pulledReset_pc (s : State) : (s.pulledReset).pc = 0 := rfl
@[simp] theorem State.pulledReset_inte (s : State) : (s.pulledReset).inte = false := rfl
@[simp] theorem State.pulledReset_eiPending (s : State) : (s.pulledReset).eiPending = false := rfl
@[simp] theorem State.pulledReset_halted (s : State) : (s.pulledReset).halted = false := rfl
@[simp] theorem State.pulledReset_mem (s : State) : (s.pulledReset).mem = s.mem := rfl
@[simp] theorem State.pulledReset_inCount (s : State) : (s.pulledReset).inCount = s.inCount := rfl
@[simp] theorem State.pulledReset_ioOut (s : State) : (s.pulledReset).ioOut = s.ioOut := rfl
@[simp] theorem State.pulledReset_params (s : State) : (s.pulledReset).params = s.params := rfl
@[simp] theorem State.pulledReset_lines (s : State) : (s.pulledReset).lines = s.lines := rfl
@[simp] theorem State.pulledReset_ioFixed (s : State) : (s.pulledReset).ioFixed = s.ioFixed := rfl
@[simp] theorem State.pulledReset_instrCount (s : State) : (s.pulledReset).instrCount = s.instrCount := rfl
@[simp] theorem State.pulledReset_cycles (s : State) : (s.pulledReset).cycles = s.cycles := rfl
@[simp] theorem State.pulledReset_clocks (s : State) : (s.pulledReset).clocks = s.clocks := rfl

end Sys2Proof.Machine
end

