-- ==== Sys2Proof/Laws/Words.lean ====
section
/-! SUPPORT. The bytes of a word and the registers of a pair: what is put together is taken apart again. -/

namespace Sys2Proof

/-- h ++ l is the 16-bit value h * 256 + l (00_scope.md R5). -/
theorem pairUp_toNat (h l : Byte) : (pairUp h l).toNat = h.toNat * 256 + l.toNat := by
  have hh := h.isLt
  have hl := l.isLt
  simp only [pairUp, BitVec.toNat_ofNat]
  omega

theorem hi8_toNat (w : Word) : (hi8 w).toNat = w.toNat / 256 := by
  have hw := w.isLt
  simp only [hi8, BitVec.toNat_ofNat]
  omega

theorem lo8_toNat (w : Word) : (lo8 w).toNat = w.toNat % 256 := by
  simp only [lo8, BitVec.toNat_ofNat]
  omega

@[simp] theorem hi8_pairUp (h l : Byte) : hi8 (pairUp h l) = h := by
  have hl := l.isLt
  apply BitVec.eq_of_toNat_eq
  rw [hi8_toNat, pairUp_toNat]
  omega

@[simp] theorem lo8_pairUp (h l : Byte) : lo8 (pairUp h l) = l := by
  have hl := l.isLt
  apply BitVec.eq_of_toNat_eq
  rw [lo8_toNat, pairUp_toNat]
  omega

@[simp] theorem pairUp_hi8_lo8 (w : Word) : pairUp (hi8 w) (lo8 w) = w := by
  apply BitVec.eq_of_toNat_eq
  rw [pairUp_toNat, hi8_toNat, lo8_toNat]
  omega

end Sys2Proof

namespace Sys2Proof.Machine

@[simp] theorem Regs.get_set (g : Regs) (r r' : Reg8) (v : Byte) :
    (g.set r v).get r' = if r' = r then v else g.get r' := by
  cases r <;> cases r' <;> rfl

@[simp] theorem State.reg_setReg (s : State) (r r' : Reg8) (v : Byte) :
    (s.setReg r v).reg r' = if r' = r then v else s.reg r' :=
  Regs.get_set s.regs r r' v

theorem Regs.ext_get {g g' : Regs} (h : ∀ r, g.get r = g'.get r) : g = g' := by
  cases g
  cases g'
  have ha := h .a
  have hb := h .b
  have hc := h .c
  have hd := h .d
  have he := h .e
  have hh := h .h
  have hl := h .l
  simp only [Regs.get] at ha hb hc hd he hh hl
  subst ha hb hc hd he hh hl
  rfl

/-- Writing a pair writes its two registers and no other (10_state.md R13). -/
@[simp] theorem State.reg_setPair (s : State) (p : Pair) (r : Reg8) (w : Word) :
    (s.setPair p w).reg r = if r = pairLow p then lo8 w else if r = pairHigh p then hi8 w else s.reg r := by
  simp [State.setPair]

@[simp] theorem State.pair_setPair_same (s : State) (p : Pair) (w : Word) : (s.setPair p w).pair p = w := by
  cases p <;> simp [State.pair, pairHigh, pairLow]

theorem State.pair_setPair_other (s : State) {p q : Pair} (h : q ≠ p) (w : Word) :
    (s.setPair p w).pair q = s.pair q := by
  cases p <;> cases q <;> simp_all [State.pair, pairHigh, pairLow]

@[simp] theorem State.reg_setFlags (s : State) (f : Flags) (r : Reg8) : (s.setFlags f).reg r = s.reg r := rfl
@[simp] theorem State.reg_setPc (s : State) (w : Word) (r : Reg8) : (s.setPc w).reg r = s.reg r := rfl
@[simp] theorem State.reg_setSp (s : State) (w : Word) (r : Reg8) : (s.setSp w).reg r = s.reg r := rfl
@[simp] theorem State.pair_setFlags (s : State) (f : Flags) (p : Pair) : (s.setFlags f).pair p = s.pair p := rfl
@[simp] theorem State.pair_setPc (s : State) (w : Word) (p : Pair) : (s.setPc w).pair p = s.pair p := rfl
@[simp] theorem State.pair_setSp (s : State) (w : Word) (p : Pair) : (s.setSp w).pair p = s.pair p := rfl

/-- Reading back the 16-bit operand that was written (10_state.md R13). -/
@[simp] theorem State.rp_setRp_same (s : State) (r : Rp) (w : Word) : (s.setRp r w).rp r = w := by
  cases r <;> simp [State.setRp, State.rp, State.setSp]

end Sys2Proof.Machine
end

