-- ==== Sys2Proof/Laws/Memory.lean ====
section
/-! SUPPORT. Memory: reading back what was written, everything else unchanged, and the canonical form kept. -/

namespace Sys2Proof.Machine

/-! ### The list of cells -/

theorem Memory.risingFrom_mono {m : Memory} {lo lo' : Nat} (h : Memory.risingFrom lo m = true) (hle : lo' ≤ lo) :
    Memory.risingFrom lo' m = true := by
  cases m with
  | nil => rfl
  | cons x rest =>
    simp only [Memory.risingFrom, Bool.and_eq_true, decide_eq_true_eq] at h ⊢
    exact ⟨⟨⟨by omega, h.1.1.2⟩, h.1.2⟩, h.2⟩

/-- Below its first address a rising list reads as unlisted. -/
theorem Memory.get_below {m : Memory} {lo a : Nat} (h : Memory.risingFrom lo m = true) (ha : a < lo) :
    m.get a = Config.unlistedByte := by
  induction m generalizing lo with
  | nil => rfl
  | cons x rest ih =>
    simp only [Memory.risingFrom, Bool.and_eq_true, decide_eq_true_eq] at h
    have hne : a ≠ x.1 := by omega
    simp only [Memory.get, hne, if_false]
    exact ih h.2 (by omega)

@[simp] theorem Memory.get_nil (a : Nat) : Memory.get [] a = Config.unlistedByte := rfl

theorem Memory.get_cons (k : Nat) (w : Byte) (rest : Memory) (a : Nat) :
    Memory.get ((k, w) :: rest) a = if a = k then w else Memory.get rest a := rfl

theorem Memory.get_entry (a : Nat) (v : Byte) (m : Memory) (h : m.get a = Config.unlistedByte) (x : Nat) :
    (Memory.entry a v m).get x = if x = a then v else m.get x := by
  unfold Memory.entry
  by_cases hv : v = Config.unlistedByte
  · by_cases hx : x = a
    · subst hx
      simp [hv, h]
    · simp [hv, hx]
  · simp [hv, Memory.get_cons]

/-- A byte that was put is read back, and every other address reads as before. -/
theorem Memory.get_put {m : Memory} {lo : Nat} (h : Memory.risingFrom lo m = true) (a : Nat) (v : Byte) (x : Nat) :
    (m.put a v).get x = if x = a then v else m.get x := by
  induction m generalizing lo with
  | nil => exact Memory.get_entry a v [] rfl x
  | cons y rest ih =>
    obtain ⟨k, w⟩ := y
    simp only [Memory.risingFrom, Bool.and_eq_true, decide_eq_true_eq] at h
    have hbelow : ∀ z, z ≤ k → Memory.get rest z = Config.unlistedByte :=
      fun z hz => Memory.get_below h.2 (by omega)
    unfold Memory.put
    by_cases hlt : a < k
    · rw [if_pos hlt]
      refine Memory.get_entry a v _ ?_ x
      rw [Memory.get_cons, if_neg (by omega)]
      exact hbelow a (by omega)
    · rw [if_neg hlt]
      by_cases heq : a = k
      · rw [if_pos heq, Memory.get_entry a v rest (hbelow a (by omega)), Memory.get_cons, heq]
        split <;> rfl
      · rw [if_neg heq, Memory.get_cons, Memory.get_cons, ih h.2]
        by_cases hx : x = k
        · subst hx
          simp [Ne.symm heq]
        · simp [hx]

theorem Memory.risingFrom_entry {m : Memory} {a : Nat} (v : Byte) {lo : Nat} (h : Memory.risingFrom (a + 1) m = true)
    (ha : a < 65536) (hlo : lo ≤ a) : Memory.risingFrom lo (Memory.entry a v m) = true := by
  unfold Memory.entry
  split
  · exact Memory.risingFrom_mono h (by omega)
  · simp only [Memory.risingFrom, Bool.and_eq_true, decide_eq_true_eq]
    exact ⟨⟨⟨hlo, ha⟩, by assumption⟩, h⟩

theorem Memory.risingFrom_put {m : Memory} {lo : Nat} (h : Memory.risingFrom lo m = true) {a : Nat} (v : Byte)
    (ha : a < 65536) (hlo : lo ≤ a) : Memory.risingFrom lo (m.put a v) = true := by
  induction m generalizing lo with
  | nil => exact Memory.risingFrom_entry v rfl ha hlo
  | cons y rest ih =>
    obtain ⟨k, w⟩ := y
    have h' := h
    simp only [Memory.risingFrom, Bool.and_eq_true, decide_eq_true_eq] at h'
    unfold Memory.put
    by_cases hlt : a < k
    · rw [if_pos hlt]
      refine Memory.risingFrom_entry v ?_ ha hlo
      simp only [Memory.risingFrom, Bool.and_eq_true, decide_eq_true_eq]
      exact ⟨⟨⟨by omega, h'.1.1.2⟩, h'.1.2⟩, h'.2⟩
    · rw [if_neg hlt]
      by_cases heq : a = k
      · rw [if_pos heq]
        refine Memory.risingFrom_entry v ?_ ha hlo
        rw [heq]
        exact h'.2
      · rw [if_neg heq]
        simp only [Memory.risingFrom, Bool.and_eq_true, decide_eq_true_eq]
        exact ⟨h'.1, ih h'.2 (by omega)⟩

/-- Every put at an address of the space keeps the canonical form. -/
theorem Memory.wf_put {m : Memory} (h : m.wf = true) {a : Nat} (v : Byte) (ha : a < 65536) : (m.put a v).wf = true :=
  Memory.risingFrom_put h v ha (Nat.zero_le a)

/-- Two canonical memories that read the same are the same list. -/
theorem Memory.ext_get {m m' : Memory} {lo lo' : Nat} (h : Memory.risingFrom lo m = true)
    (h' : Memory.risingFrom lo' m' = true) (hread : ∀ a, m.get a = m'.get a) : m = m' := by
  induction m generalizing lo lo' m' with
  | nil =>
    cases m' with
    | nil => rfl
    | cons y rest =>
      obtain ⟨k, w⟩ := y
      simp only [Memory.risingFrom, Bool.and_eq_true, decide_eq_true_eq] at h'
      have := hread k
      simp only [Memory.get_nil, Memory.get_cons, if_true] at this
      exact absurd this.symm h'.1.2
  | cons x rest ih =>
    obtain ⟨k, w⟩ := x
    have hx := h
    simp only [Memory.risingFrom, Bool.and_eq_true, decide_eq_true_eq] at hx
    cases m' with
    | nil =>
      have := hread k
      simp only [Memory.get_nil, Memory.get_cons, if_true] at this
      exact absurd this hx.1.2
    | cons y rest' =>
      obtain ⟨k', w'⟩ := y
      have hy := h'
      simp only [Memory.risingFrom, Bool.and_eq_true, decide_eq_true_eq] at hy
      have hk : k = k' := by
        by_contra hne
        rcases Nat.lt_or_gt_of_ne hne with hlt | hgt
        · have := hread k
          rw [Memory.get_cons, if_pos rfl, Memory.get_cons, if_neg hne,
            Memory.get_below hy.2 (by omega)] at this
          exact hx.1.2 this
        · have := hread k'
          rw [Memory.get_cons, if_neg (Ne.symm hne), Memory.get_cons, if_pos rfl,
            Memory.get_below hx.2 (by omega)] at this
          exact hy.1.2 this.symm
      subst hk
      have hw := hread k
      rw [Memory.get_cons, if_pos rfl, Memory.get_cons, if_pos rfl] at hw
      subst hw
      congr 1
      refine ih hx.2 hy.2 fun a => ?_
      by_cases ha : a = k
      · subst ha
        rw [Memory.get_below hx.2 (by omega), Memory.get_below hy.2 (by omega)]
      · have := hread a
        rwa [Memory.get_cons, if_neg ha, Memory.get_cons, if_neg ha] at this

/-! ### Memory accesses of the machine -/

@[simp] theorem State.kindAt_of_params {s t : State} (h : t.params = s.params) (a : Word) : t.kindAt a = s.kindAt a := by
  simp [State.kindAt, h]

/-- What an access reads depends on memory, the parameters and the instruction counter alone. -/
theorem State.readByte_congr {s t : State} (hm : t.mem = s.mem) (hp : t.params = s.params)
    (hc : t.instrCount = s.instrCount) (kind : CycleKind) (a : Word) : t.readByte kind a = s.readByte kind a := by
  simp [State.readByte, State.kindAt, hm, hp, hc]

/-- A write to RAM is read back. -/
theorem State.readByte_writeByte_ram {s : State} (h : s.mem.wf = true) {a : Word} (hk : s.kindAt a = .ram) (v : Byte)
    (kind : CycleKind) : (s.writeByte a v).readByte kind a = v := by
  have hk' : (s.writeByte a v).kindAt a = .ram := hk
  simp only [State.readByte, hk', State.writeByte_mem, State.memAfter, hk]
  rw [Memory.get_put h]
  simp

/-- A write to ROM or to an absent cell changes nothing. -/
theorem State.writeByte_not_ram {s : State} {a : Word} (hk : s.kindAt a ≠ .ram) (v : Byte) : s.writeByte a v = s := by
  have : s.memAfter a v = s.mem := by
    unfold State.memAfter
    cases hka : s.kindAt a <;> simp_all
  simp [State.writeByte, this]

/-- A write leaves every other address as it was. -/
theorem State.readByte_writeByte_other {s : State} (h : s.mem.wf = true) {a x : Word} (hx : x ≠ a) (v : Byte)
    (kind : CycleKind) : (s.writeByte a v).readByte kind x = s.readByte kind x := by
  have hk : (s.writeByte a v).kindAt x = s.kindAt x := rfl
  have hget : (s.memAfter a v).get x.toNat = s.mem.get x.toNat := by
    unfold State.memAfter
    split
    · rw [Memory.get_put h]
      have : x.toNat ≠ a.toNat := fun he => hx (BitVec.eq_of_toNat_eq he)
      simp [this]
    · rfl
  simp only [State.readByte, hk, State.writeByte_instrCount, State.writeByte_mem, hget]

/-- Every write keeps the canonical form. -/
theorem State.wf_memAfter {s : State} (h : s.mem.wf = true) (a : Word) (v : Byte) : (s.memAfter a v).wf = true := by
  unfold State.memAfter
  split
  · exact Memory.wf_put h v a.isLt
  · exact h

theorem State.wf_writeByte {s : State} (h : s.mem.wf = true) (a : Word) (v : Byte) : (s.writeByte a v).mem.wf = true :=
  State.wf_memAfter h a v

theorem State.wf_writeWord {s : State} (h : s.mem.wf = true) (a w : Word) : (s.writeWord a w).mem.wf = true :=
  State.wf_writeByte (State.wf_writeByte h _ _) _ _

theorem State.wf_push16 {s : State} (h : s.mem.wf = true) (w : Word) : (s.push16 w).mem.wf = true :=
  State.wf_writeByte (State.wf_writeByte h _ _) _ _

/-- The memory after reset has the canonical form. -/
theorem State.reset_wf : State.reset.mem.wf = true := rfl

end Sys2Proof.Machine
end

