-- ==== Sys2Proof/Laws/Ops.lean ====
section
/-! SUPPORT. For each shared operation, once, everything it can do: what the meanings' proofs cite instead of
unfolding the operation. -/

namespace Sys2Proof.Machine

/-! ### Reading memory after an update that leaves it alone -/

@[simp] theorem State.readByte_setReg (s : State) (r : Reg8) (v : Byte) (k : CycleKind) (a : Word) :
    (s.setReg r v).readByte k a = s.readByte k a := rfl
@[simp] theorem State.readByte_setPair (s : State) (p : Pair) (w : Word) (k : CycleKind) (a : Word) :
    (s.setPair p w).readByte k a = s.readByte k a := rfl
@[simp] theorem State.readByte_setSp (s : State) (w : Word) (k : CycleKind) (a : Word) :
    (s.setSp w).readByte k a = s.readByte k a := rfl
@[simp] theorem State.readByte_setRp (s : State) (r : Rp) (w : Word) (k : CycleKind) (a : Word) :
    (s.setRp r w).readByte k a = s.readByte k a := by cases r <;> rfl
@[simp] theorem State.readByte_setPc (s : State) (w : Word) (k : CycleKind) (a : Word) :
    (s.setPc w).readByte k a = s.readByte k a := rfl
@[simp] theorem State.readByte_setFlags (s : State) (f : Flags) (k : CycleKind) (a : Word) :
    (s.setFlags f).readByte k a = s.readByte k a := rfl
@[simp] theorem State.readByte_setAcc (s : State) (r : AluResult) (k : CycleKind) (a : Word) :
    (s.setAcc r).readByte k a = s.readByte k a := rfl
@[simp] theorem State.readByte_setRotated (s : State) (r : Byte × Bool) (k : CycleKind) (a : Word) :
    (s.setRotated r).readByte k a = s.readByte k a := rfl
@[simp] theorem State.readByte_drop16 (s : State) (k : CycleKind) (a : Word) :
    s.drop16.readByte k a = s.readByte k a := rfl

@[simp] theorem State.reg_writeByte (s : State) (a : Word) (v : Byte) (r : Reg8) :
    (s.writeByte a v).reg r = s.reg r := rfl
@[simp] theorem State.pair_writeByte (s : State) (a : Word) (v : Byte) (p : Pair) :
    (s.writeByte a v).pair p = s.pair p := rfl
@[simp] theorem State.kindAt_writeByte (s : State) (a : Word) (v : Byte) (x : Word) :
    (s.writeByte a v).kindAt x = s.kindAt x := rfl
@[simp] theorem State.reg_push16 (s : State) (w : Word) (r : Reg8) : (s.push16 w).reg r = s.reg r := rfl
@[simp] theorem State.kindAt_push16 (s : State) (w x : Word) : (s.push16 w).kindAt x = s.kindAt x := rfl

/-! ### Accumulator operations -/

theorem State.reg_setAcc (s : State) (r : AluResult) (x : Reg8) :
    (s.setAcc r).reg x = if x = .a then r.val else s.reg x :=
  Regs.get_set s.regs .a x r.val

theorem State.reg_setRotated (s : State) (r : Byte × Bool) (x : Reg8) :
    (s.setRotated r).reg x = if x = .a then r.1 else s.reg x :=
  Regs.get_set s.regs .a x r.1

/-! ### The stack (20_memory.md R58) -/

theorem word_sub_one_ne_sub_two (w : Word) : w - 1 ≠ w - 2 := by
  bv_omega

theorem word_add_one_ne (w : Word) : w + 1 ≠ w := by
  bv_omega

/-- A push changes the two cells below SP and no other. -/
theorem State.readByte_push16_other {s : State} (h : s.mem.wf = true) {a : Word} (h1 : a ≠ s.sp - 1)
    (h2 : a ≠ s.sp - 2) (w : Word) (k : CycleKind) : (s.push16 w).readByte k a = s.readByte k a := by
  unfold State.push16
  rw [State.readByte_setSp, State.readByte_writeByte_other (State.wf_writeByte h _ _) h2,
    State.readByte_writeByte_other h h1]

/-- The high byte of a push lies at SP-1, where there is RAM. -/
theorem State.readByte_push16_high {s : State} (h : s.mem.wf = true) (hk : s.kindAt (s.sp - 1) = .ram) (w : Word)
    (k : CycleKind) : (s.push16 w).readByte k (s.sp - 1) = hi8 w := by
  unfold State.push16
  rw [State.readByte_setSp, State.readByte_writeByte_other (State.wf_writeByte h _ _) (word_sub_one_ne_sub_two _),
    State.readByte_writeByte_ram h hk]

/-- The low byte of a push lies at SP-2, where there is RAM. -/
theorem State.readByte_push16_low {s : State} (h : s.mem.wf = true) (hk : s.kindAt (s.sp - 2) = .ram) (w : Word)
    (k : CycleKind) : (s.push16 w).readByte k (s.sp - 2) = lo8 w := by
  unfold State.push16
  rw [State.readByte_setSp, State.readByte_writeByte_ram (State.wf_writeByte h _ _) hk]

/-! ### Control transfer -/

theorem State.jumpIf_taken {s : State} {test : Cond} (h : s.flags.holds test = true) (adr : Word) :
    s.jumpIf test adr = s.setPc adr := by
  simp [State.jumpIf, h]

theorem State.jumpIf_not_taken {s : State} {test : Cond} (h : s.flags.holds test = false) (adr : Word) :
    s.jumpIf test adr = s := by
  simp [State.jumpIf, h]

theorem State.callIf_taken {s : State} {test : Cond} (h : s.flags.holds test = true) (adr : Word) :
    s.callIf test adr = s.callTo adr := by
  simp [State.callIf, h]

theorem State.callIf_not_taken {s : State} {test : Cond} (h : s.flags.holds test = false) (adr : Word) :
    s.callIf test adr = s := by
  simp [State.callIf, h]

theorem State.retIf_taken {s : State} {test : Cond} (h : s.flags.holds test = true) : s.retIf test = s.returnTo := by
  simp [State.retIf, h]

theorem State.retIf_not_taken {s : State} {test : Cond} (h : s.flags.holds test = false) : s.retIf test = s := by
  simp [State.retIf, h]

theorem restartAddress_toNat (n : BitVec 3) : (restartAddress n).toNat = 8 * n.toNat := by
  have hn := n.isLt
  simp only [restartAddress, BitVec.toNat_ofNat]
  omega

/-! ### One step -/

/-- What a step can do: pull reset, accept an interrupt, idle, or run one instruction (60_exceptions.md R273). -/
theorem State.stepWith_cases (s : State) (l : Sample) :
    (l.reset = true ∧ s.stepWith l = .next s.pulledReset) ∨
    (l.reset = false ∧ s.accepts = true ∧ ∃ n, l.int = some n ∧ s.stepWith l = .next (s.acceptInterrupt n)) ∨
    (l.reset = false ∧ (l.int = none ∨ s.accepts = false) ∧ s.halted = true ∧ s.stepWith l = .next s) ∨
    (l.reset = false ∧ (l.int = none ∨ s.accepts = false) ∧ s.halted = false ∧ s.stepWith l = s.runInstr) := by
  unfold State.stepWith State.idleOrRun
  cases hr : l.reset <;> cases hi : l.int <;> cases ha : s.accepts <;> cases hh : s.halted <;> simp

/-- What running one instruction answers (30_encoding.md R81, 60_exceptions.md R273). -/
theorem State.runInstr_next {s u : State} (h : s.runInstr = .next u) :
    ∃ t, exec s.fetch.1 (s.advance s.fetch.2) = .next t ∧ u = retire s t s.fetch.1 := by
  unfold State.runInstr at h
  split at h
  · rename_i t ht
    exact ⟨t, ht, by injection h with h; exact h.symm⟩
  · cases h
  · cases h

end Sys2Proof.Machine
end

