-- ==== Sys2Proof/Laws/PerInstr.lean ====
section
/-! SUPPORT. Statements made for every instruction, one lemma per constructor. `EncodedLength`: an instruction's
bytes are as many as the length function of 30_encoding.md R74 gives for its first byte. -/

namespace Sys2Proof.Laws.EncodedLength

/-- The encoding of a well-formed instruction has the length R74 gives for its first byte. -/
def Statement (i : Instr) : Prop := i.wf = true → (encode i).length = lengthByPattern ((encode i).headD 0)

/-- The statement for an instruction of one byte. -/
theorem of_one {i : Instr} {b1 : Byte} (he : encode i = [b1]) (hl : 1 = lengthByPattern b1) : Statement i := by
  intro _
  rw [he]
  exact hl

/-- The statement for an instruction of two bytes. -/
theorem of_two {i : Instr} {b1 b2 : Byte} (he : encode i = [b1, b2]) (hl : 2 = lengthByPattern b1) : Statement i := by
  intro _
  rw [he]
  exact hl

/-- The statement for an instruction of three bytes. -/
theorem of_three {i : Instr} {b1 b2 b3 : Byte} (he : encode i = [b1, b2, b3]) (hl : 3 = lengthByPattern b1) :
    Statement i := by
  intro _
  rw [he]
  exact hl

theorem mviR (r : Reg8) (d8 : Byte) : Statement (.mviR r d8) := by
  cases r <;> exact of_two rfl (by decide)

theorem mviM (d8 : Byte) : Statement (.mviM d8) := of_two rfl (by decide)

theorem lxi (p : Pair) (d16 : Word) : Statement (.lxi p d16) := by
  cases p <;> exact of_three rfl (by decide)

theorem lxiSp (d16 : Word) : Statement (.lxiSp d16) := of_three rfl (by decide)

theorem movRR (dst src : Reg8) : Statement (.movRR dst src) := by
  cases dst <;> cases src <;> exact of_one rfl (by decide)

theorem movMR (src : Reg8) : Statement (.movMR src) := by
  cases src <;> exact of_one rfl (by decide)

theorem movRM (dst : Reg8) : Statement (.movRM dst) := by
  cases dst <;> exact of_one rfl (by decide)

theorem xchg : Statement (.xchg) := of_one rfl (by decide)

theorem sphl : Statement (.sphl) := of_one rfl (by decide)

theorem pchl : Statement (.pchl) := of_one rfl (by decide)

theorem sta (adr : Word) : Statement (.sta adr) := of_three rfl (by decide)

theorem stax (p : Pair) : Statement (.stax p) := by
  cases p
  · exact of_one rfl (by decide)
  · exact of_one rfl (by decide)
  · exact fun h => nomatch h

theorem shld (adr : Word) : Statement (.shld adr) := of_three rfl (by decide)

theorem lda (adr : Word) : Statement (.lda adr) := of_three rfl (by decide)

theorem ldax (p : Pair) : Statement (.ldax p) := by
  cases p
  · exact of_one rfl (by decide)
  · exact of_one rfl (by decide)
  · exact fun h => nomatch h

theorem lhld (adr : Word) : Statement (.lhld adr) := of_three rfl (by decide)

theorem addR (r : Reg8) : Statement (.addR r) := by
  cases r <;> exact of_one rfl (by decide)

theorem addM : Statement (.addM) := of_one rfl (by decide)

theorem adi (d8 : Byte) : Statement (.adi d8) := of_two rfl (by decide)

theorem adcR (r : Reg8) : Statement (.adcR r) := by
  cases r <;> exact of_one rfl (by decide)

theorem adcM : Statement (.adcM) := of_one rfl (by decide)

theorem aci (d8 : Byte) : Statement (.aci d8) := of_two rfl (by decide)

theorem subR (r : Reg8) : Statement (.subR r) := by
  cases r <;> exact of_one rfl (by decide)

theorem subM : Statement (.subM) := of_one rfl (by decide)

theorem sui (d8 : Byte) : Statement (.sui d8) := of_two rfl (by decide)

theorem sbbR (r : Reg8) : Statement (.sbbR r) := by
  cases r <;> exact of_one rfl (by decide)

theorem sbbM : Statement (.sbbM) := of_one rfl (by decide)

theorem sbi (d8 : Byte) : Statement (.sbi d8) := of_two rfl (by decide)

theorem dad (rp : Rp) : Statement (.dad rp) := by
  cases rp <;> exact of_one rfl (by decide)

theorem inrR (r : Reg8) : Statement (.inrR r) := by
  cases r <;> exact of_one rfl (by decide)

theorem inrM : Statement (.inrM) := of_one rfl (by decide)

theorem dcrR (r : Reg8) : Statement (.dcrR r) := by
  cases r <;> exact of_one rfl (by decide)

theorem dcrM : Statement (.dcrM) := of_one rfl (by decide)

theorem inx (rp : Rp) : Statement (.inx rp) := by
  cases rp <;> exact of_one rfl (by decide)

theorem dcx (rp : Rp) : Statement (.dcx rp) := by
  cases rp <;> exact of_one rfl (by decide)

theorem daa : Statement (.daa) := of_one rfl (by decide)

theorem anaR (r : Reg8) : Statement (.anaR r) := by
  cases r <;> exact of_one rfl (by decide)

theorem anaM : Statement (.anaM) := of_one rfl (by decide)

theorem ani (d8 : Byte) : Statement (.ani d8) := of_two rfl (by decide)

theorem oraR (r : Reg8) : Statement (.oraR r) := by
  cases r <;> exact of_one rfl (by decide)

theorem oraM : Statement (.oraM) := of_one rfl (by decide)

theorem ori (d8 : Byte) : Statement (.ori d8) := of_two rfl (by decide)

theorem xraR (r : Reg8) : Statement (.xraR r) := by
  cases r <;> exact of_one rfl (by decide)

theorem xraM : Statement (.xraM) := of_one rfl (by decide)

theorem xri (d8 : Byte) : Statement (.xri d8) := of_two rfl (by decide)

theorem cma : Statement (.cma) := of_one rfl (by decide)

theorem cmpR (r : Reg8) : Statement (.cmpR r) := by
  cases r <;> exact of_one rfl (by decide)

theorem cmpM : Statement (.cmpM) := of_one rfl (by decide)

theorem cpi (d8 : Byte) : Statement (.cpi d8) := of_two rfl (by decide)

theorem stc : Statement (.stc) := of_one rfl (by decide)

theorem cmc : Statement (.cmc) := of_one rfl (by decide)

theorem rlc : Statement (.rlc) := of_one rfl (by decide)

theorem rrc : Statement (.rrc) := of_one rfl (by decide)

theorem ral : Statement (.ral) := of_one rfl (by decide)

theorem rar : Statement (.rar) := of_one rfl (by decide)

theorem jmp (adr : Word) : Statement (.jmp adr) := of_three rfl (by decide)

theorem jnz (adr : Word) : Statement (.jnz adr) := of_three rfl (by decide)

theorem jz (adr : Word) : Statement (.jz adr) := of_three rfl (by decide)

theorem jnc (adr : Word) : Statement (.jnc adr) := of_three rfl (by decide)

theorem jc (adr : Word) : Statement (.jc adr) := of_three rfl (by decide)

theorem jpo (adr : Word) : Statement (.jpo adr) := of_three rfl (by decide)

theorem jpe (adr : Word) : Statement (.jpe adr) := of_three rfl (by decide)

theorem jp (adr : Word) : Statement (.jp adr) := of_three rfl (by decide)

theorem jm (adr : Word) : Statement (.jm adr) := of_three rfl (by decide)

theorem push (p : Pair) : Statement (.push p) := by
  cases p <;> exact of_one rfl (by decide)

theorem pushPsw : Statement (.pushPsw) := of_one rfl (by decide)

theorem pop (p : Pair) : Statement (.pop p) := by
  cases p <;> exact of_one rfl (by decide)

theorem popPsw : Statement (.popPsw) := of_one rfl (by decide)

theorem xthl : Statement (.xthl) := of_one rfl (by decide)

theorem call (adr : Word) : Statement (.call adr) := of_three rfl (by decide)

theorem cnz (adr : Word) : Statement (.cnz adr) := of_three rfl (by decide)

theorem cz (adr : Word) : Statement (.cz adr) := of_three rfl (by decide)

theorem cnc (adr : Word) : Statement (.cnc adr) := of_three rfl (by decide)

theorem cc (adr : Word) : Statement (.cc adr) := of_three rfl (by decide)

theorem cpo (adr : Word) : Statement (.cpo adr) := of_three rfl (by decide)

theorem cpe (adr : Word) : Statement (.cpe adr) := of_three rfl (by decide)

theorem cp (adr : Word) : Statement (.cp adr) := of_three rfl (by decide)

theorem cm (adr : Word) : Statement (.cm adr) := of_three rfl (by decide)

theorem ret : Statement (.ret) := of_one rfl (by decide)

theorem rnz : Statement (.rnz) := of_one rfl (by decide)

theorem rz : Statement (.rz) := of_one rfl (by decide)

theorem rnc : Statement (.rnc) := of_one rfl (by decide)

theorem rc : Statement (.rc) := of_one rfl (by decide)

theorem rpo : Statement (.rpo) := of_one rfl (by decide)

theorem rpe : Statement (.rpe) := of_one rfl (by decide)

theorem rp : Statement (.rp) := of_one rfl (by decide)

theorem rm : Statement (.rm) := of_one rfl (by decide)

theorem rst (n : BitVec 3) : Statement (.rst n) := by
  have h : ∀ m : BitVec 3, 1 = lengthByPattern (opByte 0b11 m 0b111) := by decide
  exact of_one rfl (h n)

theorem inPort (port : Byte) : Statement (.inPort port) := of_two rfl (by decide)

theorem outPort (port : Byte) : Statement (.outPort port) := of_two rfl (by decide)

theorem nop : Statement (.nop) := of_one rfl (by decide)

theorem hlt : Statement (.hlt) := of_one rfl (by decide)

theorem ei : Statement (.ei) := of_one rfl (by decide)

theorem di : Statement (.di) := of_one rfl (by decide)

theorem unused (code : UnusedCode) : Statement (.unused code) := by
  cases code <;> exact of_one rfl (by decide)

end Sys2Proof.Laws.EncodedLength
end

