-- ==== Sys2Proof/Laws/Safety.lean ====
section
/-! SUPPORT. How a run ends, once: when a halted state is the last one (60_exceptions.md R283, R284), and each
way a run ends or goes on. -/

namespace Sys2Proof.Machine

theorem requestComes_eq_false {lines : List Sample} : requestComes lines = false ↔ ∀ l ∈ lines, l.int = none := by
  simp [requestComes]

/-- A halted run has ended: no request comes, or none could be accepted (60_exceptions.md R284). -/
theorem State.haltedForGood_iff (s : State) :
    s.haltedForGood = true ↔
      s.halted = true ∧ (s.accepts = false ∨ ∀ l ∈ s.lines, l.int = none) := by
  rw [← requestComes_eq_false]
  unfold State.haltedForGood
  cases s.halted <;> cases s.accepts <;> cases requestComes s.lines <;> decide

/-- Halted with INTE = 0 a run has ended, whatever comes on the lines (60_exceptions.md R284, 93 U12). -/
theorem State.haltedForGood_of_inte_eq_false {s : State} (h : s.halted = true) (hi : s.inte = false) :
    s.haltedForGood = true :=
  s.haltedForGood_iff.mpr ⟨h, Or.inl (by simp [State.accepts, hi])⟩

/-- A run that starts in its end state ends there, whatever the budget. -/
theorem runEnd_of_haltedForGood {s : State} (h : s.haltedForGood = true) (k : Nat) : runEnd k s = .halted s := by
  cases k <;> simp [runEnd, h]

theorem runEnd_zero {s : State} (h : s.haltedForGood = false) : runEnd 0 s = .outOfSteps s := by
  simp [runEnd, h]

/-- A run that has not ended goes on with the next state. -/
theorem runEnd_succ_next {s t : State} (h : s.haltedForGood = false) (hs : step s = .next t) (k : Nat) :
    runEnd (k + 1) s = runEnd k t := by
  simp [runEnd, h, hs]

/-- It ends at an unused code with the state at the start of the refused step (60_exceptions.md R273). -/
theorem runEnd_succ_unusedOpcode {s : State} {b1 : Byte} (h : s.haltedForGood = false)
    (hs : step s = .refused (.unusedOpcode b1)) (k : Nat) : runEnd (k + 1) s = .unusedOpcode b1 s := by
  simp [runEnd, h, hs]

end Sys2Proof.Machine
end

