-- ==== Sys2Proof/Tests/Slice0.lean ====
section
/-! SUPPORT. The model's own tests: what WellFormed refuses, words written out from the spec's encodings, one or two
small steps for each instruction with the results of the spec's worked examples, and for each statement that has
hypotheses a state that meets them. The spec rule a test takes its result from stands in its comment. -/

namespace Sys2Proof.Tests

open Sys2Proof.Machine Sys2Proof.Claims

/-! ### Helpers -/

/-- Bytes laid from an address on, in the memory's canonical form. -/
def cells : Nat → List Byte → Memory
  | _, [] => []
  | a, v :: rest => Memory.entry a v (cells (a + 1) rest)

/-- The machine after reset with a program at 0000h and SP = 0100h. -/
def load (bytes : List Byte) : State := { State.reset with mem := cells 0 bytes, sp := 0x0100 }

/-- The same with one more byte at an address. -/
def State.poke (s : State) (a : Nat) (v : Byte) : State := { s with mem := s.mem.put a v }

/-- The five flags, by name. -/
def flagsOf (z cy s p ac : Bool) : Flags := { z := z, cy := cy, s := s, p := p, ac := ac }

/-- The state after one step, where there is one. -/
def next? (s : State) : Option State :=
  match step s with
  | .next t => some t
  | .fault _ => none
  | .refused _ => none

/-- A memory map with one page of ROM at C000h and one page of nothing at D000h. -/
def mapped : List Region := [⟨0xC000, 0x100, .rom⟩, ⟨0xD000, 0x100, .absent⟩]


/-! ### WellFormed -/

/-- "There is no STAX H or STAX SP" (40 R112). -/
theorem test_wf_refuses_stax_hl : (Instr.stax .hl).wf = false := by decide

/-- LDAX has BC and DE (40 R115). -/
theorem test_wf_refuses_ldax_hl : (Instr.ldax .hl).wf = false := by decide

theorem test_wf_takes_pointer_pairs :
    (Instr.stax .bc).wf = true ∧ (Instr.stax .de).wf = true ∧ (Instr.ldax .bc).wf = true ∧ (Instr.ldax .de).wf = true := by
  decide

/-! ### Decoding: every constructor from a word written out from the spec's encoding (files 40 to 44, 30 R75) -/

/-- The instruction and the number of bytes it takes. -/
def reads (bytes : List Byte) : Option (Instr × Nat) :=
  match decode bytes with
  | .ok (i, rest) => some (i, bytes.length - rest.length)
  | .error _ => none


theorem test_decode_data_transfer :
    List.map reads [
      [0x1E, 0x3A], [0x36, 0xA6], [0x11, 0x76, 0x3A], [0x31, 0x80, 0x00], [0x58], [0x77], [0x7E], [0xEB], [0xF9],
      [0xE9], [0x32, 0x20, 0x10], [0x12], [0x02], [0x22, 0x50, 0x00], [0x3A, 0x0B, 0x00], [0x0A], [0x2A, 0x50, 0x00]] = [
      some (.mviR .e 0x3A, 2), some (.mviM 0xA6, 2), some (.lxi .de 0x3A76, 3), some (.lxiSp 0x0080, 3),
      some (.movRR .e .b, 1), some (.movMR .a, 1), some (.movRM .a, 1), some (.xchg, 1), some (.sphl, 1),
      some (.pchl, 1), some (.sta 0x1020, 3), some (.stax .de, 1), some (.stax .bc, 1), some (.shld 0x0050, 3),
      some (.lda 0x000B, 3), some (.ldax .bc, 1), some (.lhld 0x0050, 3)] := by
  decide

theorem test_decode_arithmetic :
    List.map reads [
      [0x80], [0x86], [0xC6, 0x10], [0x88], [0x8E], [0xCE, 0x42], [0x93], [0x96], [0xD6, 0x01], [0x9F], [0x9E],
      [0xDE, 0x25], [0x09], [0x39], [0x3C], [0x34], [0x05], [0x35], [0x23], [0x1B], [0x27]] = [
      some (.addR .b, 1), some (.addM, 1), some (.adi 0x10, 2), some (.adcR .b, 1), some (.adcM, 1),
      some (.aci 0x42, 2), some (.subR .e, 1), some (.subM, 1), some (.sui 0x01, 2), some (.sbbR .a, 1),
      some (.sbbM, 1), some (.sbi 0x25, 2), some (.dad .bc, 1), some (.dad .sp, 1), some (.inrR .a, 1),
      some (.inrM, 1), some (.dcrR .b, 1), some (.dcrM, 1), some (.inx .hl, 1), some (.dcx .de, 1), some (.daa, 1)] := by
  decide

theorem test_decode_logical :
    List.map reads [
      [0xA0], [0xA6], [0xE6, 0x81], [0xB0], [0xB6], [0xF6, 0x0F], [0xAA], [0xAE], [0xEE, 0xBB], [0x2F], [0xB8],
      [0xBE], [0xFE, 0x0F], [0x37], [0x3F], [0x07], [0x0F], [0x17], [0x1F]] = [
      some (.anaR .b, 1), some (.anaM, 1), some (.ani 0x81, 2), some (.oraR .b, 1), some (.oraM, 1),
      some (.ori 0x0F, 2), some (.xraR .d, 1), some (.xraM, 1), some (.xri 0xBB, 2), some (.cma, 1),
      some (.cmpR .b, 1), some (.cmpM, 1), some (.cpi 0x0F, 2), some (.stc, 1), some (.cmc, 1), some (.rlc, 1),
      some (.rrc, 1), some (.ral, 1), some (.rar, 1)] := by
  decide

theorem test_decode_jumps :
    List.map reads [
      [0xC3, 0x0A, 0x00], [0xC2, 0x07, 0x00], [0xCA, 0x0E, 0x00], [0xD2, 0x11, 0x00], [0xDA, 0x40, 0x00],
      [0xE2, 0x40, 0x00], [0xEA, 0x40, 0x00], [0xF2, 0x40, 0x00], [0xFA, 0x40, 0x00]] = [
      some (.jmp 0x000A, 3), some (.jnz 0x0007, 3), some (.jz 0x000E, 3), some (.jnc 0x0011, 3),
      some (.jc 0x0040, 3), some (.jpo 0x0040, 3), some (.jpe 0x0040, 3), some (.jp 0x0040, 3), some (.jm 0x0040, 3)] := by
  decide

theorem test_decode_stack_io_control :
    List.map reads [
      [0xC5], [0xD5], [0xE5], [0xF5], [0xD1], [0xF1], [0xE3], [0xCD, 0x40, 0x00], [0xC4, 0x40, 0x00],
      [0xCC, 0x40, 0x00], [0xD4, 0x40, 0x00], [0xDC, 0x40, 0x00], [0xE4, 0x40, 0x00], [0xEC, 0x40, 0x00],
      [0xF4, 0x40, 0x00], [0xFC, 0x40, 0x00], [0xC9], [0xC0], [0xC8], [0xD0], [0xD8], [0xE0], [0xE8], [0xF0],
      [0xF8], [0xEF], [0xDB, 0x01], [0xD3, 0x02], [0x00], [0x76], [0xFB], [0xF3]] = [
      some (.push .bc, 1), some (.push .de, 1), some (.push .hl, 1), some (.pushPsw, 1), some (.pop .de, 1),
      some (.popPsw, 1), some (.xthl, 1), some (.call 0x0040, 3), some (.cnz 0x0040, 3), some (.cz 0x0040, 3),
      some (.cnc 0x0040, 3), some (.cc 0x0040, 3), some (.cpo 0x0040, 3), some (.cpe 0x0040, 3),
      some (.cp 0x0040, 3), some (.cm 0x0040, 3), some (.ret, 1), some (.rnz, 1), some (.rz, 1), some (.rnc, 1),
      some (.rc, 1), some (.rpo, 1), some (.rpe, 1), some (.rp, 1), some (.rm, 1), some (.rst 5, 1),
      some (.inPort 0x01, 2), some (.outPort 0x02, 2), some (.nop, 1), some (.hlt, 1), some (.ei, 1), some (.di, 1)] := by
  decide

theorem test_decode_unused :
    List.map reads [
      [0x08], [0x10], [0x18], [0x20], [0x28], [0x30], [0x38], [0xCB], [0xD9], [0xDD], [0xED], [0xFD]] = [
      some (.unused .x08, 1), some (.unused .x10, 1), some (.unused .x18, 1), some (.unused .x20, 1),
      some (.unused .x28, 1), some (.unused .x30, 1), some (.unused .x38, 1), some (.unused .xCB, 1),
      some (.unused .xD9, 1), some (.unused .xDD, 1), some (.unused .xED, 1), some (.unused .xFD, 1)] := by
  decide

/-- Operand bytes that are not there (30 R70). -/
theorem test_decode_stops_without_operand_bytes :
    decode [] = .error .noBytes ∧ decode [0xC3, 0x0A] = .error (.operandBytesMissing 0xC3) ∧
      decode [0x3E] = .error (.operandBytesMissing 0x3E) := ⟨rfl, rfl, rfl⟩

/-- The numbering of the opcode table: JMP with the bytes C3 0A 00, the table's row of 8 bits, and its operand. -/
theorem test_decodeTableWord :
    decodeTableWord 8 0xC3 = some (.jmp 0x0000) ∧ decodeTableWord 24 0x000AC3 = some (.jmp 0x000A) ∧
      decodeTableWord 16 0x3A1E = some (.mviR .e 0x3A) := by decide

/-! ### One step of each instruction -/

/-- 40 R101: bytes 1E 3A leave E = 3Ah, PC = pc0 + 2. -/
theorem test_mvi_r :
    (next? ({ load [0x1E, 0x3A] with flags := flagsOf true true false false false } : State)).map
        (fun t => (t.regs.e, t.flags, t.pc)) =
      some (0x3A, flagsOf true true false false false, 0x0002) := by
  decide

/-- 40 R102: HL = 000Bh, bytes 36 A6. -/
theorem test_mvi_m :
    (next? ({ load [0x36, 0xA6] with regs := { State.reset.regs with l := 0x0B } } : State)).map
        (fun t => (t.mem.get 0x000B, t.pc)) =
      some (0xA6, 0x0002) := by
  decide

/-- 40 R103: bytes 11 76 3A leave D = 3Ah, E = 76h. -/
theorem test_lxi :
    (next? (load [0x11, 0x76, 0x3A])).map
        (fun t => (t.regs.d, t.regs.e, t.pc)) =
      some (0x3A, 0x76, 0x0003) := by
  decide

/-- 40 R104: 31 80 00 leaves SP = 0080h. -/
theorem test_lxi_sp :
    (next? (load [0x31, 0x80, 0x00])).map
        (fun t => (t.sp, t.pc)) =
      some (0x0080, 0x0003) := by
  decide

/-- 40 R105: B = 55h, byte 58: E = 55h, B unchanged. -/
theorem test_mov_r_r :
    (next? ({ load [0x58] with regs := { State.reset.regs with b := 0x55 } } : State)).map
        (fun t => (t.regs.e, t.regs.b, t.pc)) =
      some (0x55, 0x55, 0x0001) := by
  decide

/-- 40 R106: A = 11h, HL = 000Eh, byte 77. -/
theorem test_mov_m_r :
    (next? ({ load [0x77] with regs := { State.reset.regs with a := 0x11, l := 0x0E } } : State)).map
        (fun t => (t.mem.get 0x000E, t.pc)) =
      some (0x11, 0x0001) := by
  decide

/-- 40 R107: HL = 000Bh, memory[000Bh] = AAh, byte 7E. -/
theorem test_mov_r_m :
    (next? (State.poke ({ load [0x7E] with regs := { State.reset.regs with l := 0x0B } } : State) 0x000B 0xAA)).map
        (fun t => (t.regs.a, t.pc)) =
      some (0xAA, 0x0001) := by
  decide

/-- 40 R107: MOV H,M overwrites half of the pointer with the byte read at the old HL. -/
theorem test_mov_h_m :
    (next? (State.poke ({ load [0x66] with regs := { State.reset.regs with l := 0x0B } } : State) 0x000B 0xAA)).map
        (fun t => (t.regs.h, t.regs.l)) =
      some (0xAA, 0x0B) := by
  decide

/-- 40 R108: D = 55h, E = 66h, H = 07h, L = 0Eh, byte EB. -/
theorem test_xchg :
    (next? ({ load [0xEB] with regs := { State.reset.regs with d := 0x55, e := 0x66, h := 0x07, l := 0x0E } } : State)).map
        (fun t => (t.regs.d, t.regs.e, t.regs.h, t.regs.l)) =
      some (0x07, 0x0E, 0x55, 0x66) := by
  decide

/-- 40 R109: H = 12h, L = 34h, byte F9: SP = 1234h. -/
theorem test_sphl :
    (next? ({ load [0xF9] with regs := { State.reset.regs with h := 0x12, l := 0x34 } } : State)).map
        (fun t => (t.sp, t.pc)) =
      some (0x1234, 0x0001) := by
  decide

/-- 40 R110: H = 00h, L = 0Ah, byte E9 at 0007h: PC = 000Ah. -/
theorem test_pchl :
    (next? ({ State.reset with regs := { State.reset.regs with l := 0x0A }, mem := cells 0x0007 [0xE9], pc := 0x0007, sp := 0x0100 } : State)).map
        (fun t => t.pc) =
      some 0x000A := by
  decide

/-- 40 R111: A = AAh, bytes 32 20 10. -/
theorem test_sta :
    (next? ({ load [0x32, 0x20, 0x10] with regs := { State.reset.regs with a := 0xAA } } : State)).map
        (fun t => (t.mem.get 0x1020, t.pc)) =
      some (0xAA, 0x0003) := by
  decide

/-- 40 R112: A = BDh, DE = 003Ah, byte 12. -/
theorem test_stax :
    (next? ({ load [0x12] with regs := { State.reset.regs with a := 0xBD, e := 0x3A } } : State)).map
        (fun t => (t.mem.get 0x003A, t.pc)) =
      some (0xBD, 0x0001) := by
  decide

/-- 40 R113: H = 12h, L = 34h, bytes 22 50 00. -/
theorem test_shld :
    (next? ({ load [0x22, 0x50, 0x00] with regs := { State.reset.regs with h := 0x12, l := 0x34 } } : State)).map
        (fun t => (t.mem.get 0x0050, t.mem.get 0x0051)) =
      some (0x34, 0x12) := by
  decide

/-- 40 R113: for adr = FFFFh H goes to 0000h. -/
theorem test_shld_wraps :
    (next? ({ load [0x22, 0xFF, 0xFF] with regs := { State.reset.regs with h := 0x12, l := 0x34 } } : State)).map
        (fun t => (t.mem.get 0xFFFF, t.mem.get 0x0000)) =
      some (0x34, 0x12) := by
  decide

/-- 40 R114: memory[000Bh] = AAh, bytes 3A 0B 00. -/
theorem test_lda :
    (next? (State.poke (load [0x3A, 0x0B, 0x00]) 0x000B 0xAA)).map
        (fun t => (t.regs.a, t.pc)) =
      some (0xAA, 0x0003) := by
  decide

/-- 40 R115: BC = 0030h, memory[0030h] = 13h, byte 0A. -/
theorem test_ldax :
    (next? (State.poke ({ load [0x0A] with regs := { State.reset.regs with c := 0x30 } } : State) 0x0030 0x13)).map
        (fun t => (t.regs.a, t.pc)) =
      some (0x13, 0x0001) := by
  decide

/-- 40 R116: memory[0050h] = 34h, memory[0051h] = 12h, bytes 2A 50 00. -/
theorem test_lhld :
    (next? (State.poke (State.poke (load [0x2A, 0x50, 0x00]) 0x0050 0x34) 0x0051 0x12)).map
        (fun t => (t.regs.h, t.regs.l, t.pc)) =
      some (0x12, 0x34, 0x0003) := by
  decide

/-- 41 R133: A = 0Ch, B = 29h, byte 80: A = 35h, CY = 0, Z = 0, S = 0, P = 1, AC = 1. -/
theorem test_add_r :
    (next? ({ load [0x80] with regs := { State.reset.regs with a := 0x0C, b := 0x29 } } : State)).map
        (fun t => (t.regs.a, t.flags)) =
      some (0x35, flagsOf false false false true true) := by
  decide

/-- 41 R133: ADD A with A = 80h gives A = 00h, Z = 1, CY = 1, P = 1, S = 0, AC = 0. -/
theorem test_add_a :
    (next? ({ load [0x87] with regs := { State.reset.regs with a := 0x80 } } : State)).map
        (fun t => (t.regs.a, t.flags)) =
      some (0x00, flagsOf true true false true false) := by
  decide

/-- 41 R134: A = 13h, memory[0035h] = AAh, byte 86. -/
theorem test_add_m :
    (next? (State.poke ({ load [0x86] with regs := { State.reset.regs with a := 0x13, l := 0x35 } } : State) 0x0035 0xAA)).map
        (fun t => (t.regs.a, t.flags)) =
      some (0xBD, flagsOf false false true true false) := by
  decide

/-- 41 R135: A = FFh, C6 01: A = 00h, Z = 1, CY = 1, AC = 1, P = 1, S = 0. -/
theorem test_adi :
    (next? ({ load [0xC6, 0x01] with regs := { State.reset.regs with a := 0xFF } } : State)).map
        (fun t => (t.regs.a, t.flags, t.pc)) =
      some (0x00, flagsOf true true false true true, 0x0002) := by
  decide

/-- 41 R136: A = FFh, B = 00h, CY = 1, byte 88: A = 00h, Z = 1, CY = 1, AC = 1. -/
theorem test_adc_r :
    (next? ({ load [0x88] with regs := { State.reset.regs with a := 0xFF }, flags := flagsOf false true false false false } : State)).map
        (fun t => (t.regs.a, t.flags)) =
      some (0x00, flagsOf true true false true true) := by
  decide

/-- 41 R137: A = 95h, memory[HL] = B0h, CY = 0: A = 45h, CY = 1. -/
theorem test_adc_m :
    (next? (State.poke ({ load [0x8E] with regs := { State.reset.regs with a := 0x95, l := 0x36 } } : State) 0x0036 0xB0)).map
        (fun t => (t.regs.a, t.flags.cy)) =
      some (0x45, true) := by
  decide

/-- 41 R138: A = 14h, CY = 1, CE 42: A = 57h and every flag 0. -/
theorem test_aci :
    (next? ({ load [0xCE, 0x42] with regs := { State.reset.regs with a := 0x14 }, flags := flagsOf false true false false false } : State)).map
        (fun t => (t.regs.a, t.flags)) =
      some (0x57, flagsOf false false false false false) := by
  decide

/-- 41 R139: A = 0Ch, H = 29h, byte 94: A = E3h, CY = 1, S = 1; AC = 1 (10 R22). -/
theorem test_sub_r :
    (next? ({ load [0x94] with regs := { State.reset.regs with a := 0x0C, h := 0x29 } } : State)).map
        (fun t => (t.regs.a, t.flags)) =
      some (0xE3, flagsOf false true true false true) := by
  decide

/-- 41 R140: A = 50h, memory[0010h] = 20h, byte 96: A = 30h, CY = 0, Z = 0, S = 0, P = 1, AC = 1. -/
theorem test_sub_m :
    (next? (State.poke ({ load [0x96] with regs := { State.reset.regs with a := 0x50, l := 0x10 } } : State) 0x0010 0x20)).map
        (fun t => (t.regs.a, t.flags)) =
      some (0x30, flagsOf false false false true true) := by
  decide

/-- 41 R141: A = 10h, D6 01: A = 0Fh, CY = 0, AC = 0, P = 1. -/
theorem test_sui :
    (next? ({ load [0xD6, 0x01] with regs := { State.reset.regs with a := 0x10 } } : State)).map
        (fun t => (t.regs.a, t.flags)) =
      some (0x0F, flagsOf false false false true false) := by
  decide

/-- 41 R142: SBB A gives A = FFh, CY = 1 when CY was 1. -/
theorem test_sbb_a :
    (next? ({ load [0x9F] with regs := { State.reset.regs with a := 0x37 }, flags := flagsOf false true false false false } : State)).map
        (fun t => (t.regs.a, t.flags.cy)) =
      some (0xFF, true) := by
  decide

/-- 41 R143: A = 00h, memory[HL] = FFh, CY = 1: A = 00h, Z = 1, CY = 1, AC = 0. -/
theorem test_sbb_m :
    (next? (State.poke ({ load [0x9E] with regs := { State.reset.regs with l := 0x10 }, flags := flagsOf false true false false false } : State) 0x0010 0xFF)).map
        (fun t => (t.regs.a, t.flags)) =
      some (0x00, flagsOf true true false true false) := by
  decide

/-- 41 R144: A = 37h, CY = 1, DE 25: A = 11h, CY = 0, AC = 1, P = 1. -/
theorem test_sbi :
    (next? ({ load [0xDE, 0x25] with regs := { State.reset.regs with a := 0x37 }, flags := flagsOf false true false false false } : State)).map
        (fun t => (t.regs.a, t.flags)) =
      some (0x11, flagsOf false false false true true) := by
  decide

/-- 41 R145: BC = 1122h, HL = 5566h, byte 09: HL = 6688h, CY = 0, the other flags kept. -/
theorem test_dad_b :
    (next? ({ load [0x09] with regs := { State.reset.regs with b := 0x11, c := 0x22, h := 0x55, l := 0x66 }, flags := flagsOf true true true true true } : State)).map
        (fun t => (t.regs.h, t.regs.l, t.flags)) =
      some (0x66, 0x88, flagsOf true false true true true) := by
  decide

/-- 41 R145: DAD SP reads SP without changing it. -/
theorem test_dad_sp :
    (next? ({ load [0x39] with regs := { State.reset.regs with h := 0xFF, l := 0xFF } } : State)).map
        (fun t => (t.regs.h, t.regs.l, t.sp, t.flags)) =
      some (0x00, 0xFF, 0x0100, flagsOf false true false false false) := by
  decide

/-- 41 R146: FFh becomes 00h with Z = 1, AC = 1, P = 1, S = 0 and CY unchanged. -/
theorem test_inr_r :
    (next? ({ load [0x3C] with regs := { State.reset.regs with a := 0xFF } } : State)).map
        (fun t => (t.regs.a, t.flags)) =
      some (0x00, flagsOf true false false true true) := by
  decide

/-- 41 R147: HL = 0020h, memory[0020h] = FFh, byte 34. -/
theorem test_inr_m :
    (next? (State.poke ({ load [0x34] with regs := { State.reset.regs with l := 0x20 }, flags := flagsOf false true false false false } : State) 0x0020 0xFF)).map
        (fun t => (t.mem.get 0x0020, t.flags)) =
      some (0x00, flagsOf true true false true true) := by
  decide

/-- 41 R148: B = 1Fh, byte 05: B = 1Eh, Z = 0, S = 0, P = 1, AC = 1. -/
theorem test_dcr_r :
    (next? ({ load [0x05] with regs := { State.reset.regs with b := 0x1F } } : State)).map
        (fun t => (t.regs.b, t.flags)) =
      some (0x1E, flagsOf false false false true true) := by
  decide

/-- 41 R149: HL = 0020h, memory[0020h] = 00h, byte 35: FFh, S = 1, P = 1, Z = 0, AC = 0. -/
theorem test_dcr_m :
    (next? ({ load [0x35] with regs := { State.reset.regs with l := 0x20 }, flags := flagsOf false true false false false } : State)).map
        (fun t => (t.mem.get 0x0020, t.flags)) =
      some (0xFF, flagsOf false true true true false) := by
  decide

/-- 41 R150: FFFFh becomes 0000h, no flag reports it. -/
theorem test_inx :
    (next? ({ load [0x33] with flags := flagsOf false true false false false, sp := 0xFFFF } : State)).map
        (fun t => (t.sp, t.flags)) =
      some (0x0000, flagsOf false true false false false) := by
  decide

/-- 41 R151: D = 00h, E = 00h, byte 1B: D = FFh, E = FFh, flags unchanged. -/
theorem test_dcx :
    (next? ({ load [0x1B] with flags := flagsOf true false false false false } : State)).map
        (fun t => (t.regs.d, t.regs.e, t.flags)) =
      some (0xFF, 0xFF, flagsOf true false false false false) := by
  decide

/-- 41 R160: A = 9Ah: A = 00h, CY = 1, AC = 1, Z = 1. -/
theorem test_daa :
    (next? ({ load [0x27] with regs := { State.reset.regs with a := 0x9A } } : State)).map
        (fun t => (t.regs.a, t.flags)) =
      some (0x00, flagsOf true true false true true) := by
  decide

/-- 41 R160: A = 12h with CY = 1: A = 72h, CY = 1. -/
theorem test_daa_with_carry :
    (next? ({ load [0x27] with regs := { State.reset.regs with a := 0x12 }, flags := flagsOf false true false false false } : State)).map
        (fun t => (t.regs.a, t.flags)) =
      some (0x72, flagsOf false true false true false) := by
  decide

/-- 42 R172: A = BAh, r = F0h: A = B0h, S = 1, Z = 0, P = 0, CY = 0, AC = 0. -/
theorem test_ana_r :
    (next? ({ load [0xA0] with regs := { State.reset.regs with a := 0xBA, b := 0xF0 }, flags := flagsOf false true false false true } : State)).map
        (fun t => (t.regs.a, t.flags)) =
      some (0xB0, flagsOf false false true false false) := by
  decide

/-- 42 R171: with AND_AC_RULE = or_bit3 AC is bit 3 of A or of the operand. -/
theorem test_ana_r_like_8080 :
    (next? ({ load [0xA0] with regs := { State.reset.regs with a := 0xBA, b := 0xF0 }, params := { Params.default with andAc := .orBit3 } } : State)).map
        (fun t => (t.regs.a, t.flags)) =
      some (0xB0, flagsOf false false true false true) := by
  decide

/-- 42 R173: A = FFh, memory[0010h] = 00h, CY = 1, byte A6. -/
theorem test_ana_m :
    (next? ({ load [0xA6] with regs := { State.reset.regs with a := 0xFF, l := 0x10 }, flags := flagsOf false true false false false } : State)).map
        (fun t => (t.regs.a, t.flags)) =
      some (0x00, flagsOf true false false true false) := by
  decide

/-- 42 R174: A = 94h, mask 81h: A = 80h. -/
theorem test_ani :
    (next? ({ load [0xE6, 0x81] with regs := { State.reset.regs with a := 0x94 } } : State)).map
        (fun t => (t.regs.a, t.flags)) =
      some (0x80, flagsOf false false true false false) := by
  decide

/-- 42 R175: BAh or 0Fh: A = BFh, S = 1, Z = 0, P = 0, CY = 0, AC = 0. -/
theorem test_ora_r :
    (next? ({ load [0xB0] with regs := { State.reset.regs with a := 0xBA, b := 0x0F }, flags := flagsOf false true false false true } : State)).map
        (fun t => (t.regs.a, t.flags)) =
      some (0xBF, flagsOf false false true false false) := by
  decide

/-- 42 R176: memory[0010h] = 0Fh, A = BAh: A = BFh. -/
theorem test_ora_m :
    (next? (State.poke ({ load [0xB6] with regs := { State.reset.regs with a := 0xBA, l := 0x10 } } : State) 0x0010 0x0F)).map
        (fun t => (t.regs.a, t.flags)) =
      some (0xBF, flagsOf false false true false false) := by
  decide

/-- 42 R177: 3E BA F6 0F: A = BFh. -/
theorem test_ori :
    (next? ({ load [0xF6, 0x0F] with regs := { State.reset.regs with a := 0xBA } } : State)).map
        (fun t => (t.regs.a, t.flags)) =
      some (0xBF, flagsOf false false true false false) := by
  decide

/-- 42 R178: A = 96h, r = AFh: A = 39h, P = 1, S = 0, Z = 0. -/
theorem test_xra_r :
    (next? ({ load [0xAA] with regs := { State.reset.regs with a := 0x96, d := 0xAF }, flags := flagsOf false true false false true } : State)).map
        (fun t => (t.regs.a, t.flags)) =
      some (0x39, flagsOf false false false true false) := by
  decide

/-- 42 R179: A = 0Fh, memory[0010h] = F0h: A = FFh, S = 1, P = 1. -/
theorem test_xra_m :
    (next? (State.poke ({ load [0xAE] with regs := { State.reset.regs with a := 0x0F, l := 0x10 } } : State) 0x0010 0xF0)).map
        (fun t => (t.regs.a, t.flags)) =
      some (0xFF, flagsOf false false true true false) := by
  decide

/-- 42 R180: A = BBh, EE BB: A = 00h, Z = 1. -/
theorem test_xri :
    (next? ({ load [0xEE, 0xBB] with regs := { State.reset.regs with a := 0xBB } } : State)).map
        (fun t => (t.regs.a, t.flags)) =
      some (0x00, flagsOf true false false true false) := by
  decide

/-- 42 R181: A = 94h: A = 6Bh, no flag. -/
theorem test_cma :
    (next? ({ load [0x2F] with regs := { State.reset.regs with a := 0x94 }, flags := flagsOf true true false false false } : State)).map
        (fun t => (t.regs.a, t.flags)) =
      some (0x6B, flagsOf true true false false false) := by
  decide

/-- 42 R182: 0Fh - BAh: CY = 1, Z = 0, S = 0, P = 1, AC = 1; A stays 0Fh. -/
theorem test_cmp_r :
    (next? ({ load [0xB8] with regs := { State.reset.regs with a := 0x0F, b := 0xBA } } : State)).map
        (fun t => (t.regs.a, t.regs.b, t.flags)) =
      some (0x0F, 0xBA, flagsOf false true false true true) := by
  decide

/-- 42 R183: A = 7Ah, memory[0010h] = 7Ah: Z = 1, CY = 0, S = 0, P = 1, AC = 1. -/
theorem test_cmp_m :
    (next? (State.poke ({ load [0xBE] with regs := { State.reset.regs with a := 0x7A, l := 0x10 } } : State) 0x0010 0x7A)).map
        (fun t => (t.regs.a, t.flags)) =
      some (0x7A, flagsOf true false false true true) := by
  decide

/-- 42 R184: BAh - 0Fh = ABh: CY = 0, Z = 0, S = 1, P = 0, AC = 0; A = BAh. -/
theorem test_cpi :
    (next? ({ load [0xFE, 0x0F] with regs := { State.reset.regs with a := 0xBA } } : State)).map
        (fun t => (t.regs.a, t.flags)) =
      some (0xBA, flagsOf false false true false false) := by
  decide

/-- 42 R185: CY = 1, the others unchanged. -/
theorem test_stc :
    (next? ({ load [0x37] with flags := flagsOf true false false true false } : State)).map
        (fun t => t.flags) =
      some (flagsOf true true false true false) := by
  decide

/-- 42 R186: CY complemented. -/
theorem test_cmc :
    (next? ({ load [0x3F] with flags := flagsOf true true false false false } : State)).map
        (fun t => t.flags) =
      some (flagsOf true false false false false) := by
  decide

/-- 42 R187: A = 95h: A = 2Bh, CY = 1. -/
theorem test_rlc :
    (next? ({ load [0x07] with regs := { State.reset.regs with a := 0x95 }, flags := flagsOf true false false false false } : State)).map
        (fun t => (t.regs.a, t.flags)) =
      some (0x2B, flagsOf true true false false false) := by
  decide

/-- 42 R188: A = 0Fh: A = 87h, CY = 1. -/
theorem test_rrc :
    (next? ({ load [0x0F] with regs := { State.reset.regs with a := 0x0F } } : State)).map
        (fun t => (t.regs.a, t.flags)) =
      some (0x87, flagsOf false true false false false) := by
  decide

/-- 42 R189: A = 6Ah, CY = 1: A = D5h, CY = 0. -/
theorem test_ral :
    (next? ({ load [0x17] with regs := { State.reset.regs with a := 0x6A }, flags := flagsOf false true false false false } : State)).map
        (fun t => (t.regs.a, t.flags)) =
      some (0xD5, flagsOf false false false false false) := by
  decide

/-- 42 R190: A = 95h, CY = 0: A = 4Ah, CY = 1. -/
theorem test_rar :
    (next? ({ load [0x1F] with regs := { State.reset.regs with a := 0x95 } } : State)).map
        (fun t => (t.regs.a, t.flags)) =
      some (0x4A, flagsOf false true false false false) := by
  decide

/-- 43 R201: bytes C3 0A 00 at 0003h: PC = 000Ah. -/
theorem test_jmp :
    (next? ({ State.reset with mem := cells 0x0003 [0xC3, 0x0A, 0x00], pc := 0x0003, sp := 0x0100 } : State)).map
        (fun t => t.pc) =
      some 0x000A := by
  decide

/-- 43 R202. -/
theorem test_jnz_taken :
    (next? ({ load [0xC2, 0x40, 0x00] with flags := flagsOf false false false false false } : State)).map
        (fun t => t.pc) =
      some 0x0040 := by
  decide

/-- 43 R202. -/
theorem test_jnz_not_taken :
    (next? ({ load [0xC2, 0x40, 0x00] with flags := flagsOf true false false false false } : State)).map
        (fun t => t.pc) =
      some 0x0003 := by
  decide

/-- 43 R203. -/
theorem test_jz_taken :
    (next? ({ load [0xCA, 0x40, 0x00] with flags := flagsOf true false false false false } : State)).map
        (fun t => t.pc) =
      some 0x0040 := by
  decide

/-- 43 R203. -/
theorem test_jz_not_taken :
    (next? ({ load [0xCA, 0x40, 0x00] with flags := flagsOf false false false false false } : State)).map
        (fun t => t.pc) =
      some 0x0003 := by
  decide

/-- 43 R204. -/
theorem test_jnc_taken :
    (next? ({ load [0xD2, 0x40, 0x00] with flags := flagsOf false false false false false } : State)).map
        (fun t => t.pc) =
      some 0x0040 := by
  decide

/-- 43 R204. -/
theorem test_jnc_not_taken :
    (next? ({ load [0xD2, 0x40, 0x00] with flags := flagsOf false true false false false } : State)).map
        (fun t => t.pc) =
      some 0x0003 := by
  decide

/-- 43 R205. -/
theorem test_jc_taken :
    (next? ({ load [0xDA, 0x40, 0x00] with flags := flagsOf false true false false false } : State)).map
        (fun t => t.pc) =
      some 0x0040 := by
  decide

/-- 43 R205. -/
theorem test_jc_not_taken :
    (next? ({ load [0xDA, 0x40, 0x00] with flags := flagsOf false false false false false } : State)).map
        (fun t => t.pc) =
      some 0x0003 := by
  decide

/-- 43 R206. -/
theorem test_jpo_taken :
    (next? ({ load [0xE2, 0x40, 0x00] with flags := flagsOf false false false false false } : State)).map
        (fun t => t.pc) =
      some 0x0040 := by
  decide

/-- 43 R206. -/
theorem test_jpo_not_taken :
    (next? ({ load [0xE2, 0x40, 0x00] with flags := flagsOf false false false true false } : State)).map
        (fun t => t.pc) =
      some 0x0003 := by
  decide

/-- 43 R207. -/
theorem test_jpe_taken :
    (next? ({ load [0xEA, 0x40, 0x00] with flags := flagsOf false false false true false } : State)).map
        (fun t => t.pc) =
      some 0x0040 := by
  decide

/-- 43 R207. -/
theorem test_jpe_not_taken :
    (next? ({ load [0xEA, 0x40, 0x00] with flags := flagsOf false false false false false } : State)).map
        (fun t => t.pc) =
      some 0x0003 := by
  decide

/-- 43 R208. -/
theorem test_jp_taken :
    (next? ({ load [0xF2, 0x40, 0x00] with flags := flagsOf false false false false false } : State)).map
        (fun t => t.pc) =
      some 0x0040 := by
  decide

/-- 43 R208. -/
theorem test_jp_not_taken :
    (next? ({ load [0xF2, 0x40, 0x00] with flags := flagsOf false false true false false } : State)).map
        (fun t => t.pc) =
      some 0x0003 := by
  decide

/-- 43 R209. -/
theorem test_jm_taken :
    (next? ({ load [0xFA, 0x40, 0x00] with flags := flagsOf false false true false false } : State)).map
        (fun t => t.pc) =
      some 0x0040 := by
  decide

/-- 43 R209. -/
theorem test_jm_not_taken :
    (next? ({ load [0xFA, 0x40, 0x00] with flags := flagsOf false false false false false } : State)).map
        (fun t => t.pc) =
      some 0x0003 := by
  decide

/-- 44 R221: SP = 0100h, B = 12h, C = 34h, byte C5. -/
theorem test_push :
    (next? ({ load [0xC5] with regs := { State.reset.regs with b := 0x12, c := 0x34 } } : State)).map
        (fun t => (t.mem.get 0x00FF, t.mem.get 0x00FE, t.sp)) =
      some (0x12, 0x34, 0x00FE) := by
  decide

/-- 44 R221: SP = 0001h writes at 0000h and FFFFh and leaves SP = FFFFh. -/
theorem test_push_wraps :
    (next? ({ load [0xC5] with regs := { State.reset.regs with b := 0x12, c := 0x34 }, sp := 0x0001 } : State)).map
        (fun t => (t.mem.get 0x0000, t.mem.get 0xFFFF, t.sp)) =
      some (0x12, 0x34, 0xFFFF) := by
  decide

/-- 44 R222: A = 9Ch, S = 1, Z = 0, AC = 1, P = 0, CY = 1, byte F5: 9Ch and 93h. -/
theorem test_push_psw :
    (next? ({ load [0xF5] with regs := { State.reset.regs with a := 0x9C }, flags := flagsOf false true true false true } : State)).map
        (fun t => (t.mem.get 0x00FF, t.mem.get 0x00FE, t.sp)) =
      some (0x9C, 0x93, 0x00FE) := by
  decide

/-- 44 R223: SP = 00FEh, 78h and 56h, byte D1: D = 56h, E = 78h, SP = 0100h. -/
theorem test_pop :
    (next? (State.poke (State.poke ({ load [0xD1] with sp := 0x00FE } : State) 0x00FE 0x78) 0x00FF 0x56)).map
        (fun t => (t.regs.d, t.regs.e, t.sp)) =
      some (0x56, 0x78, 0x0100) := by
  decide

/-- 44 R224: FFh and 42h, byte F1: A = 42h and every flag 1. -/
theorem test_pop_psw :
    (next? (State.poke (State.poke ({ load [0xF1] with sp := 0x00FE } : State) 0x00FE 0xFF) 0x00FF 0x42)).map
        (fun t => (t.regs.a, t.flags, t.sp)) =
      some (0x42, flagsOf true true true true true, 0x0100) := by
  decide

/-- 10 R24: bits 5, 3, 1 are ignored. -/
theorem test_pop_psw_ignores_bits_5_3_1 :
    (next? (State.poke ({ load [0xF1] with flags := flagsOf true true true true true, sp := 0x00FE } : State) 0x00FE 0x2A)).map
        (fun t => t.flags) =
      some (flagsOf false false false false false) := by
  decide

/-- 44 R225: SP = 00FEh, 78h and 56h, HL = 1234h, byte E3. -/
theorem test_xthl :
    (next? (State.poke (State.poke ({ load [0xE3] with regs := { State.reset.regs with h := 0x12, l := 0x34 }, sp := 0x00FE } : State) 0x00FE 0x78) 0x00FF 0x56)).map
        (fun t => (t.regs.h, t.regs.l, t.mem.get 0x00FE, t.mem.get 0x00FF, t.sp)) =
      some (0x56, 0x78, 0x34, 0x12, 0x00FE) := by
  decide

/-- 44 R226: SP = 0100h, bytes CD 40 00 at 0010h. -/
theorem test_call :
    (next? ({ State.reset with mem := cells 0x0010 [0xCD, 0x40, 0x00], pc := 0x0010, sp := 0x0100 } : State)).map
        (fun t => (t.mem.get 0x00FF, t.mem.get 0x00FE, t.sp, t.pc)) =
      some (0x00, 0x13, 0x00FE, 0x0040) := by
  decide

/-- 44 R227. -/
theorem test_cnz_made :
    (next? ({ load [0xC4, 0x40, 0x00] with flags := flagsOf false false false false false } : State)).map
        (fun t => (t.pc, t.sp, t.mem.get 0x00FE)) =
      some (0x0040, 0x00FE, 0x03) := by
  decide

/-- 44 R227. -/
theorem test_cnz_not_made :
    (next? ({ load [0xC4, 0x40, 0x00] with flags := flagsOf true false false false false } : State)).map
        (fun t => (t.pc, t.sp, t.mem.get 0x00FE)) =
      some (0x0003, 0x0100, 0x00) := by
  decide

/-- 44 R228. -/
theorem test_cz_made :
    (next? ({ load [0xCC, 0x40, 0x00] with flags := flagsOf true false false false false } : State)).map
        (fun t => (t.pc, t.sp, t.mem.get 0x00FE)) =
      some (0x0040, 0x00FE, 0x03) := by
  decide

/-- 44 R228. -/
theorem test_cz_not_made :
    (next? ({ load [0xCC, 0x40, 0x00] with flags := flagsOf false false false false false } : State)).map
        (fun t => (t.pc, t.sp, t.mem.get 0x00FE)) =
      some (0x0003, 0x0100, 0x00) := by
  decide

/-- 44 R229. -/
theorem test_cnc_made :
    (next? ({ load [0xD4, 0x40, 0x00] with flags := flagsOf false false false false false } : State)).map
        (fun t => (t.pc, t.sp, t.mem.get 0x00FE)) =
      some (0x0040, 0x00FE, 0x03) := by
  decide

/-- 44 R229. -/
theorem test_cnc_not_made :
    (next? ({ load [0xD4, 0x40, 0x00] with flags := flagsOf false true false false false } : State)).map
        (fun t => (t.pc, t.sp, t.mem.get 0x00FE)) =
      some (0x0003, 0x0100, 0x00) := by
  decide

/-- 44 R230. -/
theorem test_cc_made :
    (next? ({ load [0xDC, 0x40, 0x00] with flags := flagsOf false true false false false } : State)).map
        (fun t => (t.pc, t.sp, t.mem.get 0x00FE)) =
      some (0x0040, 0x00FE, 0x03) := by
  decide

/-- 44 R230. -/
theorem test_cc_not_made :
    (next? ({ load [0xDC, 0x40, 0x00] with flags := flagsOf false false false false false } : State)).map
        (fun t => (t.pc, t.sp, t.mem.get 0x00FE)) =
      some (0x0003, 0x0100, 0x00) := by
  decide

/-- 44 R231. -/
theorem test_cpo_made :
    (next? ({ load [0xE4, 0x40, 0x00] with flags := flagsOf false false false false false } : State)).map
        (fun t => (t.pc, t.sp, t.mem.get 0x00FE)) =
      some (0x0040, 0x00FE, 0x03) := by
  decide

/-- 44 R231. -/
theorem test_cpo_not_made :
    (next? ({ load [0xE4, 0x40, 0x00] with flags := flagsOf false false false true false } : State)).map
        (fun t => (t.pc, t.sp, t.mem.get 0x00FE)) =
      some (0x0003, 0x0100, 0x00) := by
  decide

/-- 44 R232. -/
theorem test_cpe_made :
    (next? ({ load [0xEC, 0x40, 0x00] with flags := flagsOf false false false true false } : State)).map
        (fun t => (t.pc, t.sp, t.mem.get 0x00FE)) =
      some (0x0040, 0x00FE, 0x03) := by
  decide

/-- 44 R232. -/
theorem test_cpe_not_made :
    (next? ({ load [0xEC, 0x40, 0x00] with flags := flagsOf false false false false false } : State)).map
        (fun t => (t.pc, t.sp, t.mem.get 0x00FE)) =
      some (0x0003, 0x0100, 0x00) := by
  decide

/-- 44 R233. -/
theorem test_cp_made :
    (next? ({ load [0xF4, 0x40, 0x00] with flags := flagsOf false false false false false } : State)).map
        (fun t => (t.pc, t.sp, t.mem.get 0x00FE)) =
      some (0x0040, 0x00FE, 0x03) := by
  decide

/-- 44 R233. -/
theorem test_cp_not_made :
    (next? ({ load [0xF4, 0x40, 0x00] with flags := flagsOf false false true false false } : State)).map
        (fun t => (t.pc, t.sp, t.mem.get 0x00FE)) =
      some (0x0003, 0x0100, 0x00) := by
  decide

/-- 44 R234. -/
theorem test_cm_made :
    (next? ({ load [0xFC, 0x40, 0x00] with flags := flagsOf false false true false false } : State)).map
        (fun t => (t.pc, t.sp, t.mem.get 0x00FE)) =
      some (0x0040, 0x00FE, 0x03) := by
  decide

/-- 44 R234. -/
theorem test_cm_not_made :
    (next? ({ load [0xFC, 0x40, 0x00] with flags := flagsOf false false false false false } : State)).map
        (fun t => (t.pc, t.sp, t.mem.get 0x00FE)) =
      some (0x0003, 0x0100, 0x00) := by
  decide

/-- 44 R235: byte C9 at 0040h, 13h and 00h at SP: PC = 0013h, SP = 0100h. -/
theorem test_ret :
    (next? (State.poke ({ State.reset with sp := 0x00FE, mem := cells 0x0040 [0xC9], pc := 0x0040 } : State) 0x00FE 0x13)).map
        (fun t => (t.pc, t.sp)) =
      some (0x0013, 0x0100) := by
  decide

/-- 44 R236. -/
theorem test_rnz_made :
    (next? (State.poke ({ State.reset with flags := flagsOf false false false false false, sp := 0x00FE, mem := cells 0x0040 [0xC0], pc := 0x0040 } : State) 0x00FE 0x13)).map
        (fun t => (t.pc, t.sp)) =
      some (0x0013, 0x0100) := by
  decide

/-- 44 R236. -/
theorem test_rnz_not_made :
    (next? (State.poke ({ State.reset with flags := flagsOf true false false false false, sp := 0x00FE, mem := cells 0x0040 [0xC0], pc := 0x0040 } : State) 0x00FE 0x13)).map
        (fun t => (t.pc, t.sp)) =
      some (0x0041, 0x00FE) := by
  decide

/-- 44 R237. -/
theorem test_rz_made :
    (next? (State.poke ({ State.reset with flags := flagsOf true false false false false, sp := 0x00FE, mem := cells 0x0040 [0xC8], pc := 0x0040 } : State) 0x00FE 0x13)).map
        (fun t => (t.pc, t.sp)) =
      some (0x0013, 0x0100) := by
  decide

/-- 44 R237. -/
theorem test_rz_not_made :
    (next? (State.poke ({ State.reset with flags := flagsOf false false false false false, sp := 0x00FE, mem := cells 0x0040 [0xC8], pc := 0x0040 } : State) 0x00FE 0x13)).map
        (fun t => (t.pc, t.sp)) =
      some (0x0041, 0x00FE) := by
  decide

/-- 44 R238. -/
theorem test_rnc_made :
    (next? (State.poke ({ State.reset with flags := flagsOf false false false false false, sp := 0x00FE, mem := cells 0x0040 [0xD0], pc := 0x0040 } : State) 0x00FE 0x13)).map
        (fun t => (t.pc, t.sp)) =
      some (0x0013, 0x0100) := by
  decide

/-- 44 R238. -/
theorem test_rnc_not_made :
    (next? (State.poke ({ State.reset with flags := flagsOf false true false false false, sp := 0x00FE, mem := cells 0x0040 [0xD0], pc := 0x0040 } : State) 0x00FE 0x13)).map
        (fun t => (t.pc, t.sp)) =
      some (0x0041, 0x00FE) := by
  decide

/-- 44 R239. -/
theorem test_rc_made :
    (next? (State.poke ({ State.reset with flags := flagsOf false true false false false, sp := 0x00FE, mem := cells 0x0040 [0xD8], pc := 0x0040 } : State) 0x00FE 0x13)).map
        (fun t => (t.pc, t.sp)) =
      some (0x0013, 0x0100) := by
  decide

/-- 44 R239. -/
theorem test_rc_not_made :
    (next? (State.poke ({ State.reset with flags := flagsOf false false false false false, sp := 0x00FE, mem := cells 0x0040 [0xD8], pc := 0x0040 } : State) 0x00FE 0x13)).map
        (fun t => (t.pc, t.sp)) =
      some (0x0041, 0x00FE) := by
  decide

/-- 44 R240. -/
theorem test_rpo_made :
    (next? (State.poke ({ State.reset with flags := flagsOf false false false false false, sp := 0x00FE, mem := cells 0x0040 [0xE0], pc := 0x0040 } : State) 0x00FE 0x13)).map
        (fun t => (t.pc, t.sp)) =
      some (0x0013, 0x0100) := by
  decide

/-- 44 R240. -/
theorem test_rpo_not_made :
    (next? (State.poke ({ State.reset with flags := flagsOf false false false true false, sp := 0x00FE, mem := cells 0x0040 [0xE0], pc := 0x0040 } : State) 0x00FE 0x13)).map
        (fun t => (t.pc, t.sp)) =
      some (0x0041, 0x00FE) := by
  decide

/-- 44 R241. -/
theorem test_rpe_made :
    (next? (State.poke ({ State.reset with flags := flagsOf false false false true false, sp := 0x00FE, mem := cells 0x0040 [0xE8], pc := 0x0040 } : State) 0x00FE 0x13)).map
        (fun t => (t.pc, t.sp)) =
      some (0x0013, 0x0100) := by
  decide

/-- 44 R241. -/
theorem test_rpe_not_made :
    (next? (State.poke ({ State.reset with flags := flagsOf false false false false false, sp := 0x00FE, mem := cells 0x0040 [0xE8], pc := 0x0040 } : State) 0x00FE 0x13)).map
        (fun t => (t.pc, t.sp)) =
      some (0x0041, 0x00FE) := by
  decide

/-- 44 R242. -/
theorem test_rp_made :
    (next? (State.poke ({ State.reset with flags := flagsOf false false false false false, sp := 0x00FE, mem := cells 0x0040 [0xF0], pc := 0x0040 } : State) 0x00FE 0x13)).map
        (fun t => (t.pc, t.sp)) =
      some (0x0013, 0x0100) := by
  decide

/-- 44 R242. -/
theorem test_rp_not_made :
    (next? (State.poke ({ State.reset with flags := flagsOf false false true false false, sp := 0x00FE, mem := cells 0x0040 [0xF0], pc := 0x0040 } : State) 0x00FE 0x13)).map
        (fun t => (t.pc, t.sp)) =
      some (0x0041, 0x00FE) := by
  decide

/-- 44 R243. -/
theorem test_rm_made :
    (next? (State.poke ({ State.reset with flags := flagsOf false false true false false, sp := 0x00FE, mem := cells 0x0040 [0xF8], pc := 0x0040 } : State) 0x00FE 0x13)).map
        (fun t => (t.pc, t.sp)) =
      some (0x0013, 0x0100) := by
  decide

/-- 44 R243. -/
theorem test_rm_not_made :
    (next? (State.poke ({ State.reset with flags := flagsOf false false false false false, sp := 0x00FE, mem := cells 0x0040 [0xF8], pc := 0x0040 } : State) 0x00FE 0x13)).map
        (fun t => (t.pc, t.sp)) =
      some (0x0041, 0x00FE) := by
  decide

/-- 44 R244: SP = 0100h, byte EF at 0123h. -/
theorem test_rst :
    (next? ({ State.reset with mem := cells 0x0123 [0xEF], pc := 0x0123, sp := 0x0100 } : State)).map
        (fun t => (t.mem.get 0x00FF, t.mem.get 0x00FE, t.sp, t.pc)) =
      some (0x01, 0x24, 0x00FE, 0x0028) := by
  decide

/-- 44 R250: the environment returns 77h for port 01h, bytes DB 01. -/
theorem test_in_fixed :
    (next? ({ load [0xDB, 0x01] with flags := flagsOf true false false false false, ioFixed := [⟨0x01, 0, 0x77⟩] } : State)).map
        (fun t => (t.regs.a, t.pc, t.inCount, t.flags)) =
      some (0x77, 0x0002, 1, flagsOf true false false false false) := by
  decide

/-- 44 R251: A = 5Ah, bytes D3 02: the trace gains (02h, 5Ah). -/
theorem test_out :
    (next? ({ load [0xD3, 0x02] with regs := { State.reset.regs with a := 0x5A } } : State)).map
        (fun t => (t.ioOut, t.pc)) =
      some ([(0x02, 0x5A)], 0x0002) := by
  decide

/-- 44 R260: byte 00 at 0006h: PC = 0007h. -/
theorem test_nop :
    (next? ({ State.reset with flags := flagsOf false true false false false, mem := cells 0x0006 [0x00], pc := 0x0006, sp := 0x0100 } : State)).map
        (fun t => (t.pc, t.flags)) =
      some (0x0007, flagsOf false true false false false) := by
  decide

/-- 44 R261: byte 76 at 0008h: halted = 1, PC = 0009h. -/
theorem test_hlt :
    (next? ({ State.reset with mem := cells 0x0008 [0x76], pc := 0x0008, sp := 0x0100 } : State)).map
        (fun t => (t.halted, t.pc)) =
      some (true, 0x0009) := by
  decide

/-- 44 R262: INTE = 0, ei_pending = 1 after the first step. -/
theorem test_ei :
    (next? (load [0xFB])).map
        (fun t => (t.inte, t.eiPending, t.pc)) =
      some (false, true, 0x0001) := by
  decide

/-- 44 R262: INTE = 1, ei_pending = 0 after the instruction that follows. -/
theorem test_ei_completes :
    (next? ({ load [0x00] with eiPending := true } : State)).map
        (fun t => (t.inte, t.eiPending)) =
      some (true, false) := by
  decide

/-- 44 R263: INTE = 1, byte F3: INTE = 0. -/
theorem test_di :
    (next? ({ load [0xF3] with inte := true } : State)).map
        (fun t => (t.inte, t.pc)) =
      some (false, 0x0001) := by
  decide

/-- 95 M6: EI then DI leaves INTE = 0. -/
theorem test_di_after_ei :
    (next? ({ load [0xF3] with eiPending := true } : State)).map
        (fun t => (t.inte, t.eiPending)) =
      some (false, false) := by
  decide

/-- 44 R250: with no answer fixed the byte is the environment's, a free value. -/
theorem test_in_free :
    (next? (load [0xDB, 0x01])).map (fun t => (t.regs.a, t.inCount)) = some (Config.ioRead 0x01 0, 1) := rfl

/-- 95 M2: 08h at 0000h with UNUSED_OPCODE_POLICY = refuse. -/
theorem test_unused_refused : step (load [0x08]) = .refused (.unusedOpcode 0x08) := rfl

/-- 95 M2: CB 34 12 as C3 34 12 and DD 34 12 as CD 34 12 with the other policy. -/
theorem test_unused_like_8080 :
    let s := { load [0xCB, 0x34, 0x12] with params := { Params.default with unusedOpcodes := .likeIntel8080 } }
    let u := { load [0xDD, 0x34, 0x12] with params := { Params.default with unusedOpcodes := .likeIntel8080 } }
    (next? s).map (fun t => (t.pc, t.sp)) = some (0x1234, 0x0100) ∧
      (next? u).map (fun t => (t.pc, t.sp, t.mem.get 0xFE)) = some (0x1234, 0x00FE, 0x03) := by decide

/-! ### Interrupt, halt, reset, the address map -/

/-- 95 M1: reset writes PC, INTE, halted and ei_pending and keeps A and SP. -/
theorem test_reset_keeps_registers :
    (next? { load [0x76] with
        regs := { State.reset.regs with a := 0x12 }, pc := 5, inte := true, halted := true,
        lines := [⟨true, none⟩] }).map (fun t => (t.pc, t.inte, t.halted, t.regs.a, t.sp)) =
      some (0, false, false, 0x12, 0x0100) := by decide

/-- 95 M5: halted with INTE = 0, nothing changes, with or without a request. -/
theorem test_halted_is_stuck :
    let s := { load [0x76] with halted := true, pc := 1 }
    next? { s with lines := [⟨false, some 7⟩] } = some s ∧ next? s = some s := by decide

/-- 95 M6: after EI, with a request held, the next instruction still runs. -/
theorem test_no_acceptance_after_ei :
    (next? { load [0xFB, 0x00] with pc := 1, eiPending := true, lines := [⟨false, some 7⟩] }).map
        (fun t => (t.pc, t.inte)) = some (2, true) := by decide

/-- 95 M6: the third step accepts: INTE = 0, M[00FEh] = 02h, SP = 00FEh, PC = 0038h. -/
theorem test_acceptance :
    (next? { load [0xFB, 0x00] with pc := 2, inte := true, halted := true, lines := [⟨false, some 7⟩] }).map
        (fun t => (t.pc, t.inte, t.halted, t.sp, t.mem.get 0xFE, t.mem.get 0xFF)) =
      some (0x38, false, false, 0xFE, 0x02, 0x00) := by decide

/-- 95 M3: MVI A at FFFFh takes its operand from 0000h. -/
theorem test_pc_wraps :
    (next? (State.poke { load [0x42] with pc := 0xFFFF } 0xFFFF 0x3E)).map (fun t => (t.regs.a, t.pc)) =
      some (0x42, 0x0001) := by decide

/-- 93 U16: a write to ROM is ignored. -/
theorem test_rom_ignores_writes :
    (next? { load [0x32, 0x00, 0xC0] with
        regs := { State.reset.regs with a := 0x55 }, params := { Params.default with memMap := mapped } }).map
        (fun t => t.mem.get 0xC000) = some 0 := by decide

/-- 93 U16: an absent cell reads a free value. -/
theorem test_absent_reads_free_value :
    (next? { load [0x3A, 0x00, 0xD0] with params := { Params.default with memMap := mapped } }).map (fun t => t.regs.a) =
      some (Config.absentByte 0 .memRead 0xD000) := rfl

/-- 70 R310, R312: LXI takes 10 clocks, and a jump not taken takes 5 with JCC_NOT_TAKEN_CLOCKS = 5. -/
theorem test_clocks :
    (next? (load [0x01, 0x22, 0x11])).map (fun t => (t.cycles, t.clocks)) = some (3, 10) ∧
      (next? { load [0xCA, 0x40, 0x00] with params := { Params.default with jccNotTaken := .clocks5 } }).map
        (fun t => (t.pc, t.clocks)) = some (3, 5) := by decide

/-- 60 R274, 70 R311: an accepted interrupt takes the 3 cycles of its RST, the first an acknowledge cycle. -/
theorem test_accept_cycles :
    (acceptCycles (load [])).map (fun x => x.kind) = [.interruptAck, .stackWrite, .stackWrite] ∧
      (acceptCycles { load [] with halted := true }).map (fun x => x.kind) =
        [.interruptAckInHalt, .stackWrite, .stackWrite] ∧
      (idleCycles (load [])).map (fun x => x.kind) = [.haltAck] := by decide

/-- 20 R43: SHLD fetches three bytes, then writes adr, then adr + 1. -/
theorem test_shld_cycles :
    fetchCycles 0xFFFE 3 ++ dataCycles (.shld 0x0050) (load []) =
      [⟨.instructionFetch, 0xFFFE⟩, ⟨.instructionFetch, 0xFFFF⟩, ⟨.instructionFetch, 0x0000⟩, ⟨.memWrite, 0x0050⟩,
        ⟨.memWrite, 0x0051⟩] := by decide

/-- withFetchWord places the word where the next step fetches it. -/
theorem test_withFetchWord :
    (next? (State.reset.withFetchWord 24 0x3A7611)).map (fun t => (t.regs.d, t.regs.e)) = some (0x3A, 0x76) ∧
      (next? (State.reset.withFetchWord 8 0x76)).map (fun t => t.halted) = some true := by decide

/-- 60 R284: a run that reaches HLT ends as Halted; one that meets an unused code ends there. -/
theorem test_run_ends :
    (∃ t, runEnd 3 (load [0x3E, 0x07, 0x76]) = .halted t ∧ t.regs.a = 0x07) ∧
      runEnd 3 (load [0x08]) = .unusedOpcode 0x08 (load [0x08]) ∧ safeFor 2 (load [0x3E, 0x07, 0x76]) = true :=
  ⟨⟨_, rfl, rfl⟩, rfl, rfl⟩

/-! ### Witnesses: for each statement with hypotheses, a state and operands that meet all of them -/

/-- A state with something in every part of memory the witnesses look at. -/
def sample : State := State.poke (State.poke (load [0xCD, 0x40, 0x00, 0x76]) 0x00FE 0x78) 0x00FF 0x56

/-- The same on a platform with ROM at C000h and nothing at D000h. -/
def sampleMapped : State := { sample with params := { Params.default with memMap := mapped } }

/-- ByteLoadsGiveTheirRegister, ByteStoresWriteOneCell: the pairs LDAX and STAX have. -/
theorem witness_pointer_pairs : Pair.bc ≠ Pair.hl ∧ Pair.de ≠ Pair.hl := by decide

/-- ByteStoresWriteOneCell, DirectHlTransfersUseTwoCells, IncrementsKeepCarry, DecrementsKeepCarry, PushesStoreTheirItem,
XthlExchangesHlWithTheStack, CallsPushTheNextAddress, RestartCallsEightTimesN: a memory that is not empty and has the
canonical form, and addresses of every kind for the two clauses of `Stored`. -/
theorem witness_memory_form :
    sample.mem.wf = true ∧ sample.mem ≠ [] ∧ sampleMapped.mem.wf = true ∧ sampleMapped.kindAt 0xBFFF = .ram ∧
      sampleMapped.kindAt 0xC000 = .rom ∧ sampleMapped.kindAt 0xC0FF = .rom ∧ sampleMapped.kindAt 0xC100 = .ram ∧
      sampleMapped.kindAt 0xD000 = .absent ∧ sampleMapped.kindAt 0xD0FF = .absent := by decide

/-- The rising-address form is not met by every list. -/
theorem witness_memory_form_can_fail :
    Memory.wf [(1, 2), (0, 3)] = false ∧ Memory.wf [(0, 0)] = false ∧ Memory.wf [(65536, 1)] = false := by decide

/-- ExchangesTwiceRestoreTheState, PopReadsWhatPushStored, ReturnUndoesCall, ReturnFromHandlerResumes: RAM around SP. -/
theorem witness_stack_in_ram :
    sample.mem.wf = true ∧ sample.kindAt sample.sp = .ram ∧ sample.kindAt (sample.sp + 1) = .ram ∧
      sample.kindAt (sample.sp - 1) = .ram ∧ sample.kindAt (sample.sp - 2) = .ram := by decide

/-- PopReadsWhatPushStored: one of the instructions between PUSH PSW and POP PSW. -/
theorem witness_between_push_and_pop :
    Instr.daa = .xraR .a ∨ Instr.daa = .stc ∨ Instr.daa = .cmc ∨ Instr.daa = .daa ∨ Instr.daa = .rlc ∨
      Instr.daa = .inrR .a := by decide

/-- ReturnUndoesCall: a call of each kind. -/
theorem witness_calls :
    (∃ adr, Instr.call 0x40 = .call adr) ∧ (∃ n, Instr.rst 5 = .rst n) ∧
      ∃ test adr, Holds test sample.flags ∧ Instr.cnz 0x40 = callOn test adr :=
  ⟨⟨_, rfl⟩, ⟨_, rfl⟩, .nz, 0x40, rfl, rfl⟩

/-- SubtractionIsAdditionOfComplement: a byte and its complement. -/
theorem witness_complement : (0xD6 : Byte).toNat = 255 - (0x29 : Byte).toNat := by decide

/-- PairStepsTouchNoFlag: an operand that is not SP. -/
theorem witness_pair_not_sp : Rp.hl ≠ Rp.sp := by decide

/-- DaaCorrectsDecimalSums, ChainedDecimalAdditionIsExact: two decimal digits, at both ends of their range. -/
theorem witness_decimal : IsDecimal 0x89 ∧ IsDecimal 0x00 ∧ IsDecimal 0x99 ∧ ¬ IsDecimal 0x9A := by
  unfold IsDecimal
  decide

/-- DaaCorrectsDecimalSums: A and the operand decimal, with CY set. -/
theorem witness_decimal_state :
    let s : State := { sample with
      regs := { sample.regs with a := 0x18 }, flags := flagsOf false true false false false }
    IsDecimal (s.reg .a) ∧ IsDecimal 0x63 ∧ s.flags.cy = true := by
  unfold IsDecimal
  decide

/-- ChainedAdditionIsExact, ChainedSubtractionIsExact, ChainedDecimalAdditionIsExact: the numbers 1889 and 6376. -/
theorem witness_number_of_two_bytes :
    [((0x89 : Byte), (0x76 : Byte)), (0x18, 0x63)] ≠ [] ∧
      ∀ xy ∈ [((0x89 : Byte), (0x76 : Byte)), (0x18, 0x63)], IsDecimal xy.1 ∧ IsDecimal xy.2 := by
  simp [IsDecimal]

/-- AndsGiveResultAndFlags: both values of AND_AC_RULE. -/
theorem witness_and_rules :
    State.reset.params.andAc = .zero ∧
      ({ sample with params := { Params.default with andAc := .orBit3 } } : State).params.andAc = .orBit3 := ⟨rfl, rfl⟩

/-- ComparesSetFlagsOnly, its last clause: CPI 0Fh with A = BAh. -/
theorem witness_compare :
    ∃ t, ComparesWith (.cpi 0x0F) { sample with regs := { sample.regs with a := 0xBA } } 0x0F ∧
      exec (.cpi 0x0F) { sample with regs := { sample.regs with a := 0xBA } } = .next t := by
  refine ⟨_, ⟨_, 0xAB, rfl, ⟨by decide, ⟨by decide, by decide, by decide⟩, by decide, by decide⟩, rfl, rfl, ?_⟩, rfl⟩
  exact ⟨fun _ _ => rfl, fun _ _ _ => rfl, ⟨rfl, rfl, rfl⟩, ⟨rfl, rfl⟩, ⟨rfl, rfl, rfl, rfl, rfl, rfl⟩⟩

/-- ConditionalJumpsTestOneFlag, CallsPushTheNextAddress, ReturnsPopPc: flags for which each condition holds, and
flags for which it does not. -/
theorem witness_conditions :
    ∀ test, (∃ f, Holds test f) ∧ ∃ f, ¬ Holds test f := by
  intro test
  cases test
  · exact ⟨⟨flagsOf false false false false false, rfl⟩, ⟨flagsOf true false false false false, nofun⟩⟩
  · exact ⟨⟨flagsOf true false false false false, rfl⟩, ⟨flagsOf false false false false false, nofun⟩⟩
  · exact ⟨⟨flagsOf false false false false false, rfl⟩, ⟨flagsOf false true false false false, nofun⟩⟩
  · exact ⟨⟨flagsOf false true false false false, rfl⟩, ⟨flagsOf false false false false false, nofun⟩⟩
  · exact ⟨⟨flagsOf false false false false false, rfl⟩, ⟨flagsOf false false false true false, nofun⟩⟩
  · exact ⟨⟨flagsOf false false false true false, rfl⟩, ⟨flagsOf false false false false false, nofun⟩⟩
  · exact ⟨⟨flagsOf false false false false false, rfl⟩, ⟨flagsOf false false true false false, nofun⟩⟩
  · exact ⟨⟨flagsOf false false true false false, rfl⟩, ⟨flagsOf false false false false false, nofun⟩⟩

/-- InputAndOutputMeetTheEnvironment: an answer that is fixed, and one that is not. -/
theorem witness_io_answers :
    let s : State := { sample with ioFixed := [⟨0x01, 0, 0x77⟩] }
    s.ioFixed.find? (fun x => decide (x.port = 0x01 ∧ x.n = s.inCount)) = some ⟨0x01, 0, 0x77⟩ ∧
      s.ioFixed.find? (fun x => decide (x.port = 0x02 ∧ x.n = s.inCount)) = none := by decide

/-- UnusedCodesAreRefused: the policy, a quiet step, and an unused code at PC. -/
theorem witness_unused_refused :
    let s := load [0x08]
    (0x08, UnusedCode.x08) ∈ unusedCodes ∧ s.params.unusedOpcodes = .refuse ∧ NoEvent s ∧ s.halted = false ∧
      s.readByte .instructionFetch s.pc = byte 0x08 :=
  ⟨by decide, rfl, ⟨rfl, Or.inl rfl⟩, rfl, rfl⟩

/-- UnusedCodesRunLikeThe8080: the other policy. -/
theorem witness_unused_like_8080 :
    ({ sample with params := { Params.default with unusedOpcodes := .likeIntel8080 } } : State).params.unusedOpcodes =
      .likeIntel8080 := rfl

/-- DecodeInvertsEncode and EncodeInvertsDecode. -/
theorem witness_encoding :
    (Instr.stax .de).wf = true ∧ (Instr.call 0x1234).wf = true ∧ encode (.call 0x1234) = [0xCD, 0x34, 0x12] ∧
      decode [0xCD, 0x34, 0x12, 0x76] = .ok (.call 0x1234, [0x76]) := ⟨rfl, rfl, by decide, rfl⟩

/-- OnlyStoreAddressesChange: a storing instruction that runs, and an address it does not store to. -/
theorem witness_store :
    sample.mem.wf = true ∧ (∃ t, exec (.call 0x40) sample = .next t) ∧
      storeAddresses (.call 0x40) sample = [0x00FF, 0x00FE] ∧ (0x0000 : Word) ∉ storeAddresses (.call 0x40) sample :=
  ⟨by decide, ⟨_, rfl⟩, by decide, by decide⟩

/-- OnlyControlTransfersTouchPc: an instruction that transfers no control and one that saves no PC. -/
theorem witness_no_transfer :
    (∃ t, exec .xchg sample = .next t) ∧ transfersControl .xchg = false ∧ (∃ t, exec .pchl sample = .next t) ∧
      usesPc .pchl = false := ⟨⟨_, rfl⟩, rfl, ⟨_, rfl⟩, rfl⟩

/-- UnlistedFlagsKeepTheirValue: an instruction of each of its three classes. -/
theorem witness_flag_classes :
    (∃ t, exec .xchg sample = .next t) ∧ writesAllFlags .xchg = false ∧ writesAllButCarry .xchg = false ∧
      writesCarryAlone .xchg = false ∧ (∃ t, exec .inrM sample = .next t) ∧ writesAllButCarry .inrM = true ∧
      (∃ t, exec .rlc sample = .next t) ∧ writesCarryAlone .rlc = true :=
  ⟨⟨_, rfl⟩, rfl, rfl, rfl, ⟨_, rfl⟩, rfl, ⟨_, rfl⟩, rfl⟩

/-- OnlyNamedRegistersChange: an instruction that runs, a register that is no destination, and SP not written. -/
theorem witness_other_registers :
    (∃ t, exec (.mviR .b 0x12) sample = .next t) ∧ Reg8.c ∉ destinations (.mviR .b 0x12) ∧
      writesSp (.mviR .b 0x12) = false := ⟨⟨_, rfl⟩, by decide, rfl⟩

/-- OnlyControlInstructionsTouchControl: an instruction that is none of those it names. -/
theorem witness_no_control :
    (∃ t, exec .nop sample = .next t) ∧ Instr.nop ≠ .di ∧ Instr.nop ≠ .ei ∧ Instr.nop ≠ .hlt ∧
      (∀ port, Instr.nop ≠ .inPort port) ∧ ∀ port, Instr.nop ≠ .outPort port :=
  ⟨⟨_, rfl⟩, nofun, nofun, nofun, nofun, nofun⟩

/-- CyclesCountTheAccesses: an instruction that is neither DAD nor an unused code. -/
theorem witness_counted : (∀ p, Instr.xthl ≠ .dad p) ∧ ∀ code, Instr.xthl ≠ .unused code := ⟨nofun, nofun⟩

/-- StepRunsTheDecodedInstruction: CALL at PC, with a request on the line that INTE = 0 masks. -/
theorem witness_step_runs :
    let s : State := { sample with lines := [⟨false, some 7⟩] }
    NoEvent s ∧ s.halted = false ∧ decode (codeBytes s) = .ok (.call 0x0040, []) :=
  ⟨⟨rfl, Or.inr (Or.inl rfl)⟩, rfl, rfl⟩

/-- StepKeepsTheMemoryForm, StepKeepsTheEnvironment and NothingReadsTheCounters: a state that steps, with ROM; and
one whose step is refused. -/
theorem witness_step_next :
    sampleMapped.mem.wf = true ∧ (∃ t, step sampleMapped = .next t) ∧ sampleMapped.kindAt 0xC000 ≠ .ram ∧
      step (load [0x08]) = .refused (.unusedOpcode 0x08) := ⟨by decide, ⟨_, rfl⟩, by decide, rfl⟩

/-- InterruptIsAccepted and ReturnFromHandlerResumes: halted, INTE = 1, a request for RST 7. -/
theorem witness_acceptance :
    let s : State := { sample with inte := true, halted := true, lines := [⟨false, some 7⟩] }
    (sampleOf s).reset = false ∧ (sampleOf s).int = some 7 ∧ s.inte = true ∧ s.eiPending = false ∧
      s.mem.wf = true ∧ s.kindAt (s.sp - 1) = .ram ∧ s.kindAt (s.sp - 2) = .ram ∧ ∃ t, step s = .next t :=
  ⟨rfl, rfl, rfl, rfl, by decide, rfl, rfl, _, rfl⟩

/-- A NOP at 0000h, INTE = 1 and a request for RST 7, whose handler at 0038h is the given bytes. -/
def interrupted (handler : List Byte) : State :=
  { load [0x00] with mem := cells 0x38 handler, inte := true, lines := [⟨false, some 7⟩] }

/-- ReturnFromHandlerResumes, a handler with a body: PUSH PSW, XRA A, POP PSW, EI, then RET (the ending of 60 R278),
with ei_pending = 1 at the RET. -/
theorem witness_handler_with_ei :
    let s := interrupted [0xF5, 0xAF, 0xF1, 0xFB, 0xC9]
    (sampleOf s).int = some 7 ∧ s.inte = true ∧ s.mem.wf = true ∧ ∃ t v,
      step s = .next t ∧ stepN 4 t = some v ∧ v.sp = t.sp ∧ topLow v = topLow t ∧ topHigh v = topHigh t ∧ NoEvent v ∧
        v.halted = false ∧ v.eiPending = true ∧ decode (codeBytes v) = .ok (.ret, [0, 0]) :=
  ⟨rfl, rfl, by decide, _, _, rfl, rfl, rfl, by decide, by decide, ⟨rfl, Or.inl rfl⟩, rfl, rfl, rfl⟩

/-- The same of a handler that returns without EI and leaves another A: INR A, then RET. -/
theorem witness_handler_without_ei :
    let s := interrupted [0x3C, 0xC9]
    (sampleOf s).int = some 7 ∧ s.inte = true ∧ s.mem.wf = true ∧ ∃ t v,
      step s = .next t ∧ stepN 1 t = some v ∧ v.sp = t.sp ∧ topLow v = topLow t ∧ topHigh v = topHigh t ∧ NoEvent v ∧
        v.halted = false ∧ v.eiPending = false ∧ v.regs ≠ s.regs ∧ decode (codeBytes v) = .ok (.ret, [0, 0]) :=
  ⟨rfl, rfl, by decide, _, _, rfl, rfl, rfl, by decide, by decide, ⟨rfl, Or.inl rfl⟩, rfl, rfl, by decide, rfl⟩

/-- MaskedRequestHasNoEffect: each of its two cases. -/
theorem witness_masked :
    (sample.inte = false ∨ sample.eiPending = true) ∧
      let s : State := { sample with inte := true, eiPending := true }
      s.inte = false ∨ s.eiPending = true := ⟨Or.inl rfl, Or.inr rfl⟩

/-- The state just after EI, with a request held and a given instruction next. -/
def afterEi (b1 : Byte) : State :=
  { load [0xFB, b1] with pc := 1, eiPending := true, lines := [⟨false, some 7⟩] }

/-- EnableTakesEffectOneInstructionLater: DI, EI, HLT and NOP after EI. -/
theorem witness_after_ei :
    (decode (codeBytes (afterEi 0xF3)) = .ok (.di, [0, 0]) ∧ ∃ t, step (afterEi 0xF3) = .next t) ∧
      (decode (codeBytes (afterEi 0xFB)) = .ok (.ei, [0, 0]) ∧ ∃ t, step (afterEi 0xFB) = .next t) ∧
      (decode (codeBytes (afterEi 0x76)) = .ok (.hlt, [0, 0]) ∧ ∃ t, step (afterEi 0x76) = .next t) ∧
      (decode (codeBytes (afterEi 0x00)) = .ok (.nop, [0, 0]) ∧ ∃ t, step (afterEi 0x00) = .next t) ∧
      (afterEi 0x00).eiPending = true ∧ (afterEi 0x00).halted = false ∧ (sampleOf (afterEi 0x00)).reset = false :=
  ⟨⟨rfl, _, rfl⟩, ⟨rfl, _, rfl⟩, ⟨rfl, _, rfl⟩, ⟨rfl, _, rfl⟩, rfl, rfl, rfl⟩

/-- HaltWithoutInterruptIsForGood: a halt with INTE = 0 and a request on the line; one with INTE = 1 and none; one
with ei_pending = 1, which no run reaches. -/
theorem witness_halted :
    let s : State := { sample with halted := true, lines := [⟨false, some 7⟩] }
    let u : State := { sample with halted := true, inte := true, lines := [⟨false, none⟩] }
    let v : State := { sample with halted := true, inte := true, eiPending := true, lines := [⟨false, some 7⟩] }
    (s.halted = true ∧ (∀ l ∈ s.lines, l.reset = false) ∧ s.inte = false) ∧
      (u.halted = true ∧ (∀ l ∈ u.lines, l.reset = false) ∧ ∀ l ∈ u.lines, l.int = none) ∧
      v.halted = true ∧ (∀ l ∈ v.lines, l.reset = false) ∧ v.eiPending = true := by
  decide

/-- ResetWritesFourThings: the reset line pulled together with a request. -/
theorem witness_reset : (sampleOf { sample with inte := true, lines := [⟨true, some 7⟩] }).reset = true := rfl

/-- RunEndIsFinal: a run that ends halted and one that ends at an unused code. -/
theorem witness_run_end :
    (∃ u, runEnd 3 (load [0x3E, 0x07, 0x76]) = .halted u) ∧
      ∃ u, runEnd 1 (load [0x08]) = .unusedOpcode 0x08 u := ⟨⟨_, rfl⟩, ⟨_, rfl⟩⟩

/-- RunEndIsFinal, its first clause, with a reset to come: INTE = 0 with a request, INTE = 1 with none, and the case of
ei_pending = 1, which no run reaches. -/
theorem witness_run_end_with_reset :
    let s : State := { sample with halted := true, lines := [⟨true, none⟩, ⟨false, some 7⟩] }
    let u : State := { sample with halted := true, inte := true, lines := [⟨true, none⟩] }
    let v : State := { sample with halted := true, inte := true, eiPending := true, lines := [⟨true, some 7⟩] }
    (s.halted = true ∧ s.inte = false) ∧ (u.halted = true ∧ ∀ l ∈ u.lines, l.int = none) ∧
      v.halted = true ∧ v.eiPending = true := by
  decide

/-- 60 R284, 93 U12: halted with INTE = 0 is Halted although a reset is to come; halted with INTE = 1 and a request to
come is not. -/
theorem test_halted_with_reset_to_come :
    let s : State := { sample with halted := true, lines := [⟨true, none⟩] }
    let u : State := { sample with halted := true, inte := true, lines := [⟨false, some 7⟩] }
    runEnd 0 s = .halted s ∧ runEnd 1 s = .halted s ∧ runEnd 0 u = .outOfSteps u := ⟨rfl, rfl, rfl⟩

/-- The per-instruction family EncodedLength, on an instruction of each length. -/
theorem test_encoded_length :
    (encode (.movRR .e .b)).length = 1 ∧ (encode (.mviR .e 0x3A)).length = 2 ∧ (encode (.jmp 0x000A)).length = 3 := by
  decide

end Sys2Proof.Tests
end

section
/-! PROOFS. The layer the obligations share: the fields of a first byte, words from forms, the claims' pairs in the
model's terms, and the frame of each state update. -/

namespace Sys2Proof

/-! ### The fields of a first byte (30_encoding.md R71, R72) -/

@[simp] theorem fieldGG_opByte (gg : BitVec 2) (ddd sss : BitVec 3) : fieldGG (opByte gg ddd sss) = gg := by
  revert gg ddd sss
  decide

@[simp] theorem fieldDDD_opByte (gg : BitVec 2) (ddd sss : BitVec 3) : fieldDDD (opByte gg ddd sss) = ddd := by
  revert gg ddd sss
  decide

@[simp] theorem fieldSSS_opByte (gg : BitVec 2) (ddd sss : BitVec 3) : fieldSSS (opByte gg ddd sss) = sss := by
  revert gg ddd sss
  decide

theorem decodeForm_quadrant0 (ddd sss : BitVec 3) : decodeForm (opByte 0b00 ddd sss) = decodeQuadrant0 ddd sss := by
  simp [decodeForm]

theorem decodeForm_quadrant1 (ddd sss : BitVec 3) : decodeForm (opByte 0b01 ddd sss) = decodeQuadrant1 ddd sss := by
  simp [decodeForm]

/-- The operand code of a register selects that register (10_state.md R12). -/
@[simp] theorem regOf_code (r : Reg8) : regOf r.code = some r := by
  cases r <;> rfl

/-- The operand code of the cell M selects no register (10_state.md R12). -/
@[simp] theorem regOf_codeM : regOf codeM = none := rfl

/-- In quadrant 00, sss = 110 is MVI (30_encoding.md R76). -/
theorem decodeQuadrant0_mvi (ddd : BitVec 3) :
    decodeQuadrant0 ddd 0b110 = .two ((regOf ddd).elim .mviM .mviR) := rfl

/-- h ++ l of 00_scope.md R5 is the bits of h before the bits of l. -/
theorem pairUp_eq_append (h l : Byte) : pairUp h l = h ++ l := by
  apply BitVec.eq_of_toNat_eq
  rw [pairUp_toNat, BitVec.toNat_append, ← Nat.shiftLeft_add_eq_or_of_lt l.isLt, Nat.shiftLeft_eq]

end Sys2Proof

namespace Sys2Proof.Claims

open Sys2Proof.Machine

/-! ### Codes and words -/

theorem regCode_eq (r : Reg8) : regCode r = r.code.toNat := by
  cases r <;> rfl

/-- The first byte `gg ddd sss` as a number (30_encoding.md R71). -/
theorem byte_eq_opByte {n : Nat} {gg : BitVec 2} {ddd sss : BitVec 3}
    (h : n = 64 * gg.toNat + 8 * ddd.toNat + sss.toNat) : byte n = opByte gg ddd sss := by
  subst h
  revert gg ddd sss
  decide

theorem words1_of_form {i : Instr} {b1 : Nat} (hd : decodeForm (byte b1) = .one i) (he : encode i = [byte b1]) :
    Words1 i b1 :=
  ⟨fun rest => by simp [decode, hd], he⟩

theorem words2_of_form {build : Byte → Instr} {b1 : Nat} (hd : decodeForm (byte b1) = .two build)
    (he : ∀ b2, encode (build b2) = [byte b1, b2]) : Words2 build b1 :=
  fun b2 => ⟨fun rest => by simp [decode, hd], he b2⟩

/-- The operand bytes of a three-byte instruction come low byte first (30_encoding.md R71). -/
theorem words3_of_form {build : Word → Instr} {b1 : Nat} (hd : decodeForm (byte b1) = .three build)
    (he : ∀ w, encode (build w) = enc3 (byte b1) w) : Words3 build b1 := by
  intro b2 b3
  rw [← pairUp_eq_append]
  exact ⟨fun rest => by simp [decode, hd], by simp [he, enc3]⟩

/-! ### Pairs and the cell M -/

@[simp] theorem pairOf_eq_pair (s : State) (p : Pair) : pairOf s p = s.pair p := by
  cases p <;> exact (pairUp_eq_append _ _).symm

theorem cellM_eq_readM (s : State) : cellM s = s.readM := by
  simp [cellM, State.readM]

theorem pairRegs_eq (p : Pair) : pairRegs p = [pairHigh p] ++ [pairLow p] := by
  cases p <;> rfl

/-! ### The frame of the state's updates -/

theorem Frame.trans {s t u : State} {regs regs' : List Reg8} {stored stored' : List Word}
    (h : Frame s t regs stored) (h' : Frame t u regs' stored') : Frame s u (regs ++ regs') (stored ++ stored') where
  sameRegs r hr := by
    rw [List.mem_append, not_or] at hr
    rw [h'.sameRegs r hr.2, h.sameRegs r hr.1]
  sameMemory a ha k := by
    rw [List.mem_append, not_or] at ha
    rw [h'.sameMemory a ha.2 k, h.sameMemory a ha.1 k]
  sameControl := by
    obtain ⟨hInte, hEi, hHalted⟩ := h.sameControl
    obtain ⟨hInte', hEi', hHalted'⟩ := h'.sameControl
    exact ⟨hInte'.trans hInte, hEi'.trans hEi, hHalted'.trans hHalted⟩
  sameIo := by
    obtain ⟨hIn, hOut⟩ := h.sameIo
    obtain ⟨hIn', hOut'⟩ := h'.sameIo
    exact ⟨hIn'.trans hIn, hOut'.trans hOut⟩
  sameRun := by
    obtain ⟨hParams, hLines, hFixed, hCount, hCycles, hClocks⟩ := h.sameRun
    obtain ⟨hParams', hLines', hFixed', hCount', hCycles', hClocks'⟩ := h'.sameRun
    exact ⟨hParams'.trans hParams, hLines'.trans hLines, hFixed'.trans hFixed, hCount'.trans hCount,
      hCycles'.trans hCycles, hClocks'.trans hClocks⟩

/-- A frame with more exceptions says less. -/
theorem Frame.mono {s t : State} {regs regs' : List Reg8} {stored stored' : List Word} (h : Frame s t regs stored)
    (hr : regs ⊆ regs') (hs : stored ⊆ stored') : Frame s t regs' stored' where
  sameRegs r hn := h.sameRegs r fun hm => hn (hr hm)
  sameMemory a hn := h.sameMemory a fun hm => hn (hs hm)
  sameControl := h.sameControl
  sameIo := h.sameIo
  sameRun := h.sameRun

theorem frame_setReg (s : State) (r : Reg8) (v : Byte) : Frame s (s.setReg r v) [r] [] where
  sameRegs x hx := by rw [State.reg_setReg, if_neg (List.ne_of_not_mem_cons hx)]
  sameMemory a _ k := State.readByte_setReg s r v k a
  sameControl := ⟨rfl, rfl, rfl⟩
  sameIo := ⟨rfl, rfl⟩
  sameRun := ⟨rfl, rfl, rfl, rfl, rfl, rfl⟩

/-- Writing a pair is writing its two registers (10_state.md R13). -/
theorem frame_setPair (s : State) (p : Pair) (w : Word) : Frame s (s.setPair p w) (pairRegs p) [] := by
  rw [pairRegs_eq]
  exact (frame_setReg s (pairHigh p) (hi8 w)).trans (frame_setReg _ (pairLow p) (lo8 w))

theorem frame_setSp (s : State) (w : Word) : Frame s (s.setSp w) [] [] where
  sameRegs r _ := State.reg_setSp s w r
  sameMemory a _ k := State.readByte_setSp s w k a
  sameControl := ⟨rfl, rfl, rfl⟩
  sameIo := ⟨rfl, rfl⟩
  sameRun := ⟨rfl, rfl, rfl, rfl, rfl, rfl⟩

/-- An instruction whose next state is the write of one register loads that register. -/
theorem loadsByte_of_exec_setReg {i : Instr} {s : State} {r : Reg8} {v : Byte} (h : exec i s = .next (s.setReg r v)) :
    LoadsByte i s r v :=
  ⟨_, h, by simp, rfl, rfl, rfl, frame_setReg s r v⟩

end Sys2Proof.Claims
end

section
/-! PROOFS. Data transfer (40_data_transfer.md): the loads of a register, a pair and SP. -/

namespace Sys2Proof.DataTransfer

open Sys2Proof.Machine Sys2Proof.Claims

/-! ### What the loads do -/

theorem exec_mviR (r : Reg8) (d8 : Byte) (s : State) : exec (.mviR r d8) s = .next (s.setReg r d8) := rfl

theorem exec_movRR (dst src : Reg8) (s : State) : exec (.movRR dst src) s = .next (s.setReg dst (s.reg src)) := rfl

theorem exec_movRM (dst : Reg8) (s : State) : exec (.movRM dst) s = .next (s.setReg dst s.readM) := rfl

theorem exec_lda (adr : Word) (s : State) : exec (.lda adr) s = .next (s.setReg .a (s.readByte .memRead adr)) := rfl

theorem exec_ldax (p : Pair) (s : State) :
    exec (.ldax p) s = .next (s.setReg .a (s.readByte .memRead (s.pair p))) := rfl

theorem exec_lxi (p : Pair) (d16 : Word) (s : State) : exec (.lxi p d16) s = .next (s.setPair p d16) := rfl

theorem exec_lxiSp (d16 : Word) (s : State) : exec (.lxiSp d16) s = .next (s.setSp d16) := rfl

theorem exec_sphl (s : State) : exec .sphl s = .next (s.setSp (s.pair .hl)) := rfl

theorem exec_xchg (s : State) :
    exec .xchg s = .next ((s.setPair .hl (s.pair .de)).setPair .de (s.pair .hl)) := rfl

/-! ### Their words -/

theorem words2_mviR (r : Reg8) : Words2 (.mviR r) (0x06 + 8 * regCode r) := by
  have hb : byte (0x06 + 8 * regCode r) = opByte 0b00 r.code 0b110 :=
    byte_eq_opByte (by simp [regCode_eq, Nat.add_comm])
  refine words2_of_form ?_ fun _ => by rw [hb]; rfl
  rw [hb, decodeForm_quadrant0, decodeQuadrant0_mvi, regOf_code]
  rfl

theorem words1_movRR (dst src : Reg8) : Words1 (.movRR dst src) (0x40 + 8 * regCode dst + regCode src) := by
  have hb : byte (0x40 + 8 * regCode dst + regCode src) = opByte 0b01 dst.code src.code :=
    byte_eq_opByte (by simp [regCode_eq])
  refine words1_of_form ?_ (by rw [hb]; rfl)
  rw [hb, decodeForm_quadrant1]
  simp [decodeQuadrant1]

theorem words1_movRM (dst : Reg8) : Words1 (.movRM dst) (0x46 + 8 * regCode dst) := by
  have hb : byte (0x46 + 8 * regCode dst) = opByte 0b01 dst.code codeM :=
    byte_eq_opByte (by simp [regCode_eq, codeM, Nat.add_right_comm])
  refine words1_of_form ?_ (by rw [hb]; rfl)
  rw [hb, decodeForm_quadrant1]
  simp [decodeQuadrant1]

theorem words1_ldax {p : Pair} (h : p ≠ .hl) : Words1 (.ldax p) (0x0A + 16 * pairCode p) := by
  cases p with
  | bc => exact words1_of_form rfl rfl
  | de => exact words1_of_form rfl rfl
  | hl => exact absurd rfl h

theorem words3_lxi (p : Pair) : Words3 (.lxi p) (0x01 + 16 * pairCode p) := by
  cases p <;> exact words3_of_form rfl fun _ => rfl

/-! ### The pair exchange -/

/-- XCHG's two writes change D, E, H and L alone. -/
theorem frame_xchg (s : State) (v w : Word) :
    Frame s ((s.setPair .hl v).setPair .de w) [.d, .e, .h, .l] [] :=
  ((frame_setPair s .hl v).trans (frame_setPair _ .de w)).mono (by decide) (by decide)

/-! ### The obligations -/

/-- Settles O1: each load is one register write, `loadsByte_of_exec_setReg`. -/
theorem byteLoadsGiveTheirRegister : Obligations.ByteLoadsGiveTheirRegister := by
  refine ⟨fun r => ⟨words2_mviR r, fun d8 => ⟨fun _ _ => rfl, fun s => ?mviR⟩⟩,
    fun dst src => ⟨words1_movRR dst src, fun _ _ => rfl, fun s => ?movRR⟩,
    fun dst => ⟨words1_movRM dst, fun _ _ => rfl, fun s => ?movRM⟩,
    ⟨words3_of_form rfl fun _ => rfl, fun adr => ⟨fun _ _ => rfl, fun s => ?lda⟩⟩,
    fun p hp => ⟨words1_ldax hp, fun _ _ => rfl, fun s => ?ldax⟩⟩
  case mviR => exact loadsByte_of_exec_setReg (exec_mviR r d8 s)
  case movRR => exact loadsByte_of_exec_setReg (exec_movRR dst src s)
  case movRM =>
    rw [cellM_eq_readM]
    exact loadsByte_of_exec_setReg (exec_movRM dst s)
  case lda => exact loadsByte_of_exec_setReg (exec_lda adr s)
  case ldax =>
    rw [pairOf_eq_pair]
    exact loadsByte_of_exec_setReg (exec_ldax p s)

/-- Settles O2: LXI writes its pair, LXI SP and SPHL write SP, XCHG writes HL and then DE with the values both had
before. -/
theorem pairLoadsGiveTheirPair : Obligations.PairLoadsGiveTheirPair := by
  refine ⟨fun p => ⟨words3_lxi p, fun d16 => ⟨fun _ _ => rfl, fun s => ?lxi⟩⟩,
    ⟨words3_of_form rfl fun _ => rfl, fun d16 => ⟨fun _ _ => rfl, fun s => ?lxiSp⟩⟩,
    ⟨words1_of_form rfl rfl, fun _ _ => rfl, fun s => ?sphl⟩,
    ⟨words1_of_form rfl rfl, fun _ _ => rfl, fun s => ?xchg⟩⟩
  case lxi => exact ⟨_, exec_lxi p d16 s, by simp, rfl, rfl, rfl, frame_setPair s p d16⟩
  case lxiSp => exact ⟨_, exec_lxiSp d16 s, rfl, rfl, rfl, frame_setSp s d16⟩
  case sphl => exact ⟨_, exec_sphl s, by simp, rfl, rfl, frame_setSp s _⟩
  case xchg =>
    refine ⟨_, exec_xchg s, ?_, ?_, ?_, ?_, rfl, rfl, rfl, frame_xchg s _ _⟩ <;>
      simp [State.pair, pairHigh, pairLow]

end Sys2Proof.DataTransfer
end

section
/-! PROOFS. The layer the accumulator operations share: the flags of a result, the frame of a write to the flags and
to A, and the words of quadrant 10. -/

namespace Sys2Proof

/-! ### Quadrant 10 (30_encoding.md R78) -/

theorem decodeForm_quadrant2 (aaa sss : BitVec 3) : decodeForm (opByte 0b10 aaa sss) = decodeQuadrant2 aaa sss := by
  simp [decodeForm]

end Sys2Proof

namespace Sys2Proof.Claims

open Sys2Proof.Machine

/-- A row of quadrant 10 in its register form: the operation's code is bits 5:3, the register's code bits 2:0. -/
theorem words1_quadrant2 {aaa : BitVec 3} {ofM : Instr} {ofR : Reg8 → Instr} {b1 : Nat}
    (hd : ∀ sss, decodeQuadrant2 aaa sss = .one ((regOf sss).elim ofM ofR))
    (he : ∀ r, encode (ofR r) = [opByte 0b10 aaa r.code]) (hb1 : b1 = 0x80 + 8 * aaa.toNat) (r : Reg8) :
    Words1 (ofR r) (b1 + regCode r) := by
  have hb : byte (b1 + regCode r) = opByte 0b10 aaa r.code :=
    byte_eq_opByte (by simp [hb1, regCode_eq])
  refine words1_of_form ?_ (by rw [hb, he])
  rw [hb, decodeForm_quadrant2, hd, regOf_code]
  rfl

/-! ### The flags of a result (10_state.md R20) -/

theorem zeroFlag_iff (v : Byte) : zeroFlag v = true ↔ v.toNat = 0 := by
  simp [zeroFlag, BitVec.toNat_eq]

theorem signFlag_iff (v : Byte) : signFlag v = true ↔ 128 ≤ v.toNat := by
  have hmsb : signFlag v = v.msb := (BitVec.msb_eq_getLsbD_last v).symm
  rw [hmsb, BitVec.msb_eq_decide, decide_eq_true_iff]

theorem toNat_getLsbD (v : Byte) (k : Nat) : (v.getLsbD k).toNat = v.toNat / 2 ^ k % 2 :=
  Nat.toNat_testBit v.toNat k

/-- Counting the places where a bit is 1 and summing the bits give the same number. -/
theorem length_filter_range_eq_sum (bit : Nat → Bool) (n : Nat) :
    ((List.range n).filter bit).length = ∑ k ∈ Finset.range n, (bit k).toNat := by
  induction n with
  | zero => rfl
  | succ n ih =>
    rw [List.range_succ, List.filter_append, List.length_append, Finset.sum_range_succ, ih]
    cases h : bit n <;> simp [h]

theorem onesCount_eq_ones (v : Byte) : onesCount v = ones v := by
  simp only [onesCount, ones, length_filter_range_eq_sum, toNat_getLsbD]

theorem parityFlag_iff (v : Byte) : parityFlag v = true ↔ ones v % 2 = 0 := by
  rw [parityFlag, decide_eq_true_iff, onesCount_eq_ones]

/-- set_ZSP gives the flags of the result, whatever the two carries. -/
theorem resultFlags_ofResult (v : Byte) (ac cy : Bool) : ResultFlags (Flags.ofResult v ac cy) v :=
  ⟨zeroFlag_iff v, signFlag_iff v, parityFlag_iff v⟩

/-! ### Writes to the flags and to A -/

theorem frame_setFlags (s : State) (f : Flags) : Frame s (s.setFlags f) [] [] where
  sameRegs r _ := State.reg_setFlags s f r
  sameMemory a _ k := State.readByte_setFlags s f k a
  sameControl := ⟨rfl, rfl, rfl⟩
  sameIo := ⟨rfl, rfl⟩
  sameRun := ⟨rfl, rfl, rfl, rfl, rfl, rfl⟩

theorem frame_setAcc (s : State) (r : AluResult) : Frame s (s.setAcc r) [.a] [] :=
  (frame_setReg s .a r.val).trans (frame_setFlags _ r.flags)

/-- An instruction whose next state takes an ALU result gives A and the flags what holds of that result. -/
theorem accumulatorGets_of_exec_setAcc {i : Instr} {s : State} {r : AluResult} {result : Byte → Flags → Prop}
    (h : exec i s = .next (s.setAcc r)) (hr : result r.val r.flags) : AccumulatorGets i s result := by
  refine ⟨_, h, ?_, rfl, rfl, frame_setAcc s r⟩
  rwa [State.reg_setAcc, if_pos rfl]

/-! ### 16-bit operands -/

@[simp] theorem rpOf_eq_rp (s : State) (p : Rp) : rpOf s p = s.rp p := by
  cases p with
  | bc => exact pairOf_eq_pair s .bc
  | de => exact pairOf_eq_pair s .de
  | hl => exact pairOf_eq_pair s .hl
  | sp => rfl

end Sys2Proof.Claims
end

section
/-! PROOFS. Arithmetic (41_arithmetic.md): the additions of 8 and of 16 bits. -/

namespace Sys2Proof.Arithmetic

open Sys2Proof.Machine Sys2Proof.Claims

/-! ### The adders (41_arithmetic.md R131, R145) -/

theorem isSum_add8 (a x : Byte) (cin : Bool) : IsSum a x cin (add8 a x cin).val (add8 a x cin).flags :=
  ⟨BitVec.toNat_ofNat _ _, resultFlags_ofResult _ _ _, decide_eq_true_iff, decide_eq_true_iff⟩

theorem add16_sum_toNat (x y : Word) : (add16 x y).1.toNat = (x.toNat + y.toNat) % 65536 :=
  BitVec.toNat_ofNat _ _

theorem add16_carry (x y : Word) : (add16 x y).2 = decide (65535 < x.toNat + y.toNat) := rfl

/-! ### What the additions do -/

theorem exec_addR (r : Reg8) (s : State) :
    exec (.addR r) s = .next (s.setAcc (add8 (s.reg .a) (s.reg r) false)) := rfl

theorem exec_addM (s : State) : exec .addM s = .next (s.setAcc (add8 (s.reg .a) s.readM false)) := rfl

theorem exec_adi (d8 : Byte) (s : State) : exec (.adi d8) s = .next (s.setAcc (add8 (s.reg .a) d8 false)) := rfl

theorem exec_adcR (r : Reg8) (s : State) :
    exec (.adcR r) s = .next (s.setAcc (add8 (s.reg .a) (s.reg r) s.flags.cy)) := rfl

theorem exec_adcM (s : State) : exec .adcM s = .next (s.setAcc (add8 (s.reg .a) s.readM s.flags.cy)) := rfl

theorem exec_aci (d8 : Byte) (s : State) :
    exec (.aci d8) s = .next (s.setAcc (add8 (s.reg .a) d8 s.flags.cy)) := rfl

theorem exec_dad (p : Rp) (s : State) :
    exec (.dad p) s = .next ((s.setPair .hl (add16 (s.pair .hl) (s.rp p)).1).setFlags
      { s.flags with cy := (add16 (s.pair .hl) (s.rp p)).2 }) := rfl

/-- An instruction whose next state takes a result of `add8` gives A and the flags the sum. -/
theorem accumulatorGets_isSum {i : Instr} {s : State} {a x : Byte} {cin : Bool}
    (h : exec i s = .next (s.setAcc (add8 a x cin))) : AccumulatorGets i s (IsSum a x cin) :=
  accumulatorGets_of_exec_setAcc h (isSum_add8 a x cin)

/-! ### Their words -/

theorem words1_addR (r : Reg8) : Words1 (.addR r) (0x80 + regCode r) :=
  words1_quadrant2 (aaa := 0b000) (fun _ => rfl) (fun _ => rfl) rfl r

theorem words1_adcR (r : Reg8) : Words1 (.adcR r) (0x88 + regCode r) :=
  words1_quadrant2 (aaa := 0b001) (fun _ => rfl) (fun _ => rfl) rfl r

theorem words1_dad (p : Rp) : Words1 (.dad p) (0x09 + 16 * rpCode p) := by
  cases p <;> exact words1_of_form rfl rfl

/-! ### The obligations -/

/-- Settles O6: each of the six forms takes `add8` of A, its operand and its carry, `accumulatorGets_isSum`. -/
theorem additionsGiveSumAndFlags : Obligations.AdditionsGiveSumAndFlags := by
  refine ⟨fun r => ⟨words1_addR r, fun _ _ => rfl, fun s => ?addR⟩,
    ⟨words1_of_form rfl rfl, fun _ _ => rfl, fun s => ?addM⟩,
    ⟨words2_of_form rfl fun _ => rfl, fun d8 => ⟨fun _ _ => rfl, fun s => ?adi⟩⟩,
    fun r => ⟨words1_adcR r, fun _ _ => rfl, fun s => ?adcR⟩,
    ⟨words1_of_form rfl rfl, fun _ _ => rfl, fun s => ?adcM⟩,
    ⟨words2_of_form rfl fun _ => rfl, fun d8 => ⟨fun _ _ => rfl, fun s => ?aci⟩⟩⟩
  case addR => exact accumulatorGets_isSum (exec_addR r s)
  case addM =>
    rw [cellM_eq_readM]
    exact accumulatorGets_isSum (exec_addM s)
  case adi => exact accumulatorGets_isSum (exec_adi d8 s)
  case adcR => exact accumulatorGets_isSum (exec_adcR r s)
  case adcM =>
    rw [cellM_eq_readM]
    exact accumulatorGets_isSum (exec_adcM s)
  case aci => exact accumulatorGets_isSum (exec_aci d8 s)

/-- Settles O12: DAD writes HL, then CY alone among the flags, both from `add16` of the values before. -/
theorem dadAddsIntoHlAndCarry : Obligations.DadAddsIntoHlAndCarry := by
  refine fun p => ⟨words1_dad p, fun _ _ => rfl, fun s => ⟨_, exec_dad p s, ?hl, ?flags, rfl, rfl, ?frame⟩⟩
  case hl => simp [add16_sum_toNat]
  case flags => exact ⟨rfl, rfl, rfl, rfl, by simp [add16_carry]⟩
  case frame => exact (frame_setPair s .hl _).trans (frame_setFlags _ _)

end Sys2Proof.Arithmetic
end

section
/-! PROOFS. Logic (42_logical.md): OR and exclusive OR, the complement of A, the carry-flag instructions, the
rotates. -/

namespace Sys2Proof.Logic

open Sys2Proof.Machine Sys2Proof.Claims

/-! ### Bitwise results (42_logical.md R170, R171) -/

/-- With CY = 0, set_ZSP of a byte whose bits are `op` of the operands' bits is a bitwise result, whatever AC is. -/
theorem isBitwise_ofResult {op : Bool → Bool → Bool} {a x r : Byte} (ac : Bool)
    (hbits : ∀ k, r.getLsbD k = op (a.getLsbD k) (x.getLsbD k)) :
    IsBitwise op a x r (Flags.ofResult r ac false) :=
  ⟨fun k _ => hbits k, resultFlags_ofResult r ac false, rfl⟩

theorem isBitwise_or8 (a x : Byte) : IsBitwise or a x (or8 a x).val (or8 a x).flags :=
  isBitwise_ofResult false fun _ => BitVec.getLsbD_or

theorem or8_ac (a x : Byte) : (or8 a x).flags.ac = false := rfl

theorem isBitwise_xor8 (a x : Byte) : IsBitwise xor a x (xor8 a x).val (xor8 a x).flags :=
  isBitwise_ofResult false fun _ => BitVec.getLsbD_xor

theorem xor8_ac (a x : Byte) : (xor8 a x).flags.ac = false := rfl

/-- The number CMA computes is the byte with every bit inverted (42_logical.md R181). -/
theorem ofNat_255_sub_toNat (a : Byte) : BitVec.ofNat 8 (255 - a.toNat) = ~~~a := by
  apply BitVec.eq_of_toNat_eq
  rw [BitVec.toNat_not, BitVec.toNat_ofNat]
  omega

/-! ### The bit a rotate moves between A and CY (42_logical.md R187 to R190) -/

theorem toNat_getLsbD_seven (a : Byte) : (a.getLsbD 7).toNat = a.toNat / 128 := by
  rw [toNat_getLsbD]
  have := a.isLt
  omega

theorem toNat_getLsbD_zero (a : Byte) : (a.getLsbD 0).toNat = a.toNat % 2 := by
  rw [toNat_getLsbD, Nat.pow_zero, Nat.div_one]

theorem decide_toNat_eq_one (b : Bool) : decide (b.toNat = 1) = b := by
  cases b <;> rfl

/-- The bit that enters at the right end fits beside the seven bits moved left. -/
theorem rotLeftCarry_toNat (a : Byte) (cy : Bool) :
    (rotLeftCarry a cy).1.toNat = a.toNat * 2 % 256 + cy.toNat := by
  have := Bool.toNat_le cy
  exact Nat.mod_eq_of_lt (by omega)

theorem rotLeftCarry_carry (a : Byte) (cy : Bool) : (rotLeftCarry a cy).2 = a.getLsbD 7 := by
  rw [rotLeftCarry, ← toNat_getLsbD_seven, decide_toNat_eq_one]

/-- The bit that enters at the left end fits beside the seven bits moved right. -/
theorem rotRightCarry_toNat (a : Byte) (cy : Bool) :
    (rotRightCarry a cy).1.toNat = a.toNat / 2 + 128 * cy.toNat := by
  have := a.isLt
  have := Bool.toNat_le cy
  exact Nat.mod_eq_of_lt (by omega)

theorem rotRightCarry_carry (a : Byte) (cy : Bool) : (rotRightCarry a cy).2 = a.getLsbD 0 := by
  rw [rotRightCarry, ← toNat_getLsbD_zero, decide_toNat_eq_one]

/-- RLC is RAL with A's own bit 7 as the bit that enters. -/
theorem rotLeft_eq_rotLeftCarry (a : Byte) : rotLeft a = rotLeftCarry a (a.getLsbD 7) := by
  rw [rotLeft, rotLeftCarry, toNat_getLsbD_seven]

/-- RRC is RAR with A's own bit 0 as the bit that enters. -/
theorem rotRight_eq_rotRightCarry (a : Byte) : rotRight a = rotRightCarry a (a.getLsbD 0) := by
  rw [rotRight, rotRightCarry, toNat_getLsbD_zero]

theorem bitOf_eq_toNat_getLsbD (v : Byte) (k : Nat) : bitOf v k = (v.getLsbD k).toNat :=
  (toNat_getLsbD v k).symm

/-! ### Writes to CY and to A with CY -/

theorem onlyCarry_with (f : Flags) (cy : Bool) : OnlyCarry f { f with cy := cy } cy :=
  ⟨rfl, rfl, rfl, rfl, rfl⟩

theorem frame_setRotated (s : State) (r : Byte × Bool) : Frame s (s.setRotated r) [.a] [] :=
  (frame_setReg s .a r.1).trans (frame_setFlags _ { s.flags with cy := r.2 })

/-- An instruction whose next state takes the byte and the bit of a rotate is that rotate. -/
theorem rotates_of_exec_setRotated {i : Instr} {s : State} {r : Byte × Bool} (h : exec i s = .next (s.setRotated r)) :
    Rotates i s r.1.toNat r.2 := by
  refine ⟨_, h, ?_, onlyCarry_with s.flags r.2, rfl, rfl, frame_setRotated s r⟩
  rw [State.reg_setRotated, if_pos rfl]

/-- A rotate to the left whose right end takes `cy`. -/
theorem rotates_left {i : Instr} {s : State} {cy : Bool}
    (h : exec i s = .next (s.setRotated (rotLeftCarry (s.reg .a) cy))) :
    Rotates i s ((s.reg .a).toNat * 2 % 256 + cy.toNat) ((s.reg .a).getLsbD 7) := by
  rw [← rotLeftCarry_toNat, ← rotLeftCarry_carry _ cy]
  exact rotates_of_exec_setRotated h

/-- A rotate to the right whose left end takes `cy`. -/
theorem rotates_right {i : Instr} {s : State} {cy : Bool}
    (h : exec i s = .next (s.setRotated (rotRightCarry (s.reg .a) cy))) :
    Rotates i s ((s.reg .a).toNat / 2 + 128 * cy.toNat) ((s.reg .a).getLsbD 0) := by
  rw [← rotRightCarry_toNat, ← rotRightCarry_carry _ cy]
  exact rotates_of_exec_setRotated h

/-! ### What the instructions do -/

theorem exec_oraR (r : Reg8) (s : State) : exec (.oraR r) s = .next (s.setAcc (or8 (s.reg .a) (s.reg r))) := rfl

theorem exec_oraM (s : State) : exec .oraM s = .next (s.setAcc (or8 (s.reg .a) s.readM)) := rfl

theorem exec_ori (d8 : Byte) (s : State) : exec (.ori d8) s = .next (s.setAcc (or8 (s.reg .a) d8)) := rfl

theorem exec_xraR (r : Reg8) (s : State) : exec (.xraR r) s = .next (s.setAcc (xor8 (s.reg .a) (s.reg r))) := rfl

theorem exec_xraM (s : State) : exec .xraM s = .next (s.setAcc (xor8 (s.reg .a) s.readM)) := rfl

theorem exec_xri (d8 : Byte) (s : State) : exec (.xri d8) s = .next (s.setAcc (xor8 (s.reg .a) d8)) := rfl

theorem exec_cma (s : State) : exec .cma s = .next (s.setReg .a (~~~s.reg .a)) := by
  rw [← ofNat_255_sub_toNat]
  rfl

theorem exec_stc (s : State) : exec .stc s = .next (s.setFlags { s.flags with cy := true }) := rfl

theorem exec_cmc (s : State) : exec .cmc s = .next (s.setFlags { s.flags with cy := !s.flags.cy }) := rfl

theorem exec_rlc (s : State) :
    exec .rlc s = .next (s.setRotated (rotLeftCarry (s.reg .a) ((s.reg .a).getLsbD 7))) := by
  rw [← rotLeft_eq_rotLeftCarry]
  rfl

theorem exec_rrc (s : State) :
    exec .rrc s = .next (s.setRotated (rotRightCarry (s.reg .a) ((s.reg .a).getLsbD 0))) := by
  rw [← rotRight_eq_rotRightCarry]
  rfl

theorem exec_ral (s : State) : exec .ral s = .next (s.setRotated (rotLeftCarry (s.reg .a) s.flags.cy)) := rfl

theorem exec_rar (s : State) : exec .rar s = .next (s.setRotated (rotRightCarry (s.reg .a) s.flags.cy)) := rfl

/-- An instruction whose next state takes a result of `or8` gives A and the flags the OR, with AC = 0. -/
theorem accumulatorGets_or {i : Instr} {s : State} {a x : Byte} (h : exec i s = .next (s.setAcc (or8 a x))) :
    AccumulatorGets i s fun r f => IsBitwise or a x r f ∧ f.ac = false :=
  accumulatorGets_of_exec_setAcc h ⟨isBitwise_or8 a x, or8_ac a x⟩

/-- The same of `xor8` and the exclusive OR. -/
theorem accumulatorGets_xor {i : Instr} {s : State} {a x : Byte} (h : exec i s = .next (s.setAcc (xor8 a x))) :
    AccumulatorGets i s fun r f => IsBitwise xor a x r f ∧ f.ac = false :=
  accumulatorGets_of_exec_setAcc h ⟨isBitwise_xor8 a x, xor8_ac a x⟩

/-! ### Their words -/

theorem words1_oraR (r : Reg8) : Words1 (.oraR r) (0xB0 + regCode r) :=
  words1_quadrant2 (aaa := 0b110) (fun _ => rfl) (fun _ => rfl) rfl r

theorem words1_xraR (r : Reg8) : Words1 (.xraR r) (0xA8 + regCode r) :=
  words1_quadrant2 (aaa := 0b101) (fun _ => rfl) (fun _ => rfl) rfl r

/-! ### The obligations -/

/-- Settles O19: each of the six forms takes `or8` or `xor8` of A and its operand, `accumulatorGets_or` and
`accumulatorGets_xor`. -/
theorem orsAndXorsGiveResultAndFlags : Obligations.OrsAndXorsGiveResultAndFlags := by
  refine ⟨fun r => ⟨words1_oraR r, fun _ _ => rfl, fun s => ?oraR⟩,
    ⟨words1_of_form rfl rfl, fun _ _ => rfl, fun s => ?oraM⟩,
    ⟨words2_of_form rfl fun _ => rfl, fun d8 => ⟨fun _ _ => rfl, fun s => ?ori⟩⟩,
    fun r => ⟨words1_xraR r, fun _ _ => rfl, fun s => ?xraR⟩,
    ⟨words1_of_form rfl rfl, fun _ _ => rfl, fun s => ?xraM⟩,
    ⟨words2_of_form rfl fun _ => rfl, fun d8 => ⟨fun _ _ => rfl, fun s => ?xri⟩⟩⟩
  case oraR => exact accumulatorGets_or (exec_oraR r s)
  case oraM =>
    rw [cellM_eq_readM]
    exact accumulatorGets_or (exec_oraM s)
  case ori => exact accumulatorGets_or (exec_ori d8 s)
  case xraR => exact accumulatorGets_xor (exec_xraR r s)
  case xraM =>
    rw [cellM_eq_readM]
    exact accumulatorGets_xor (exec_xraM s)
  case xri => exact accumulatorGets_xor (exec_xri d8 s)

/-- Settles O21: CMA writes A with every bit inverted; STC and CMC write CY alone. -/
theorem complementAndCarryInstructions : Obligations.ComplementAndCarryInstructions := by
  refine ⟨⟨words1_of_form rfl rfl, fun _ _ => rfl, fun s =>
      ⟨_, exec_cma s, ?number, fun k hk => ?bits, rfl, rfl, rfl, frame_setReg s .a _⟩⟩,
    ⟨words1_of_form rfl rfl, fun _ _ => rfl, fun s =>
      ⟨_, exec_stc s, onlyCarry_with s.flags true, rfl, rfl, frame_setFlags s _⟩⟩,
    ⟨words1_of_form rfl rfl, fun _ _ => rfl, fun s =>
      ⟨_, exec_cmc s, onlyCarry_with s.flags (!s.flags.cy), rfl, rfl, frame_setFlags s _⟩⟩⟩
  case number => simp
  case bits => simp [hk]

/-- Settles O22: RAL and RAR take in CY, RLC and RRC the bit of A that goes out, `rotates_left` and
`rotates_right`. -/
theorem rotatesMoveOneBit : Obligations.RotatesMoveOneBit := by
  refine ⟨⟨words1_of_form rfl rfl, fun _ _ => rfl, fun s => ?rlc⟩,
    ⟨words1_of_form rfl rfl, fun _ _ => rfl, fun s => ?rrc⟩,
    ⟨words1_of_form rfl rfl, fun _ _ => rfl, fun s => ?ral⟩,
    ⟨words1_of_form rfl rfl, fun _ _ => rfl, fun s => ?rar⟩⟩
  case rlc =>
    rw [bitOf_eq_toNat_getLsbD]
    exact rotates_left (exec_rlc s)
  case rrc =>
    rw [bitOf_eq_toNat_getLsbD]
    exact rotates_right (exec_rrc s)
  case ral => exact rotates_left (exec_ral s)
  case rar => exact rotates_right (exec_rar s)

end Sys2Proof.Logic
end

section
/-! PROOFS. Jumps (43_jumps.md): the frame of a write to PC, and the jumps without a condition, with PCHL
(40_data_transfer.md R110). -/

namespace Sys2Proof.Claims

open Sys2Proof.Machine

theorem frame_setPc (s : State) (w : Word) : Frame s (s.setPc w) [] [] where
  sameRegs r _ := State.reg_setPc s w r
  sameMemory a _ k := State.readByte_setPc s w k a
  sameControl := ⟨rfl, rfl, rfl⟩
  sameIo := ⟨rfl, rfl⟩
  sameRun := ⟨rfl, rfl, rfl, rfl, rfl, rfl⟩

end Sys2Proof.Claims

namespace Sys2Proof.Jumps

open Sys2Proof.Machine Sys2Proof.Claims

/-! ### What the jumps without a condition do -/

theorem exec_jmp (adr : Word) (s : State) : exec (.jmp adr) s = .next (s.setPc adr) := rfl

theorem exec_pchl (s : State) : exec .pchl s = .next (s.setPc (s.pair .hl)) := rfl

/-! ### The obligations -/

/-- Settles O24: JMP and PCHL write PC alone, `frame_setPc`; the address is JMP's operand and PCHL's HL. -/
theorem unconditionalJumpsLoadPc : Obligations.UnconditionalJumpsLoadPc := by
  refine ⟨⟨words3_of_form rfl fun _ => rfl, fun adr => ⟨fun _ _ => rfl, fun s => ?jmp⟩⟩,
    ⟨words1_of_form rfl rfl, fun _ _ => rfl, fun s => ?pchl⟩⟩
  case jmp => exact ⟨_, exec_jmp adr s, State.setPc_pc s adr, rfl, rfl, frame_setPc s adr⟩
  case pchl =>
    rw [pairOf_eq_pair]
    exact ⟨_, exec_pchl s, State.setPc_pc s _, rfl, rfl, frame_setPc s _⟩

end Sys2Proof.Jumps
end

section
/-! PROOFS. Conditional jumps (43_jumps.md R202 to R209): the claims' conditions in the model's terms, the frame of an
instruction that changes nothing, and what a conditional jump does and costs when it is taken and when it is not. -/

namespace Sys2Proof.Claims

open Sys2Proof.Machine

/-- The model's test of a condition decides it (10_state.md R25). -/
theorem holds_iff (test : Cond) (f : Flags) : Holds test f ↔ f.holds test = true := by
  cases test <;> simp [Holds, Flags.holds]

theorem not_holds_iff (test : Cond) (f : Flags) : ¬ Holds test f ↔ f.holds test = false := by
  rw [holds_iff, Bool.not_eq_true]

theorem Frame.refl (s : State) : Frame s s [] [] where
  sameRegs _ _ := rfl
  sameMemory _ _ _ := rfl
  sameControl := ⟨rfl, rfl, rfl⟩
  sameIo := ⟨rfl, rfl⟩
  sameRun := ⟨rfl, rfl, rfl, rfl, rfl, rfl⟩

end Sys2Proof.Claims

namespace Sys2Proof.ConditionalJumps

open Sys2Proof.Machine Sys2Proof.Claims

/-! ### Their words, what they do, what they cost -/

theorem words3_jumpOn (test : Cond) : Words3 (jumpOn test) (0xC2 + 8 * condCode test) := by
  cases test <;> exact words3_of_form rfl fun _ => rfl

theorem exec_jumpOn (test : Cond) (adr : Word) (s : State) :
    exec (jumpOn test adr) s = .next (s.jumpIf test adr) := by
  cases test <;> rfl

theorem exec_jumpOn_taken {test : Cond} {s : State} (h : Holds test s.flags) (adr : Word) :
    exec (jumpOn test adr) s = .next (s.setPc adr) := by
  rw [exec_jumpOn, State.jumpIf_taken ((holds_iff test s.flags).mp h)]

theorem exec_jumpOn_not_taken {test : Cond} {s : State} (h : ¬ Holds test s.flags) (adr : Word) :
    exec (jumpOn test adr) s = .next s := by
  rw [exec_jumpOn, State.jumpIf_not_taken ((not_holds_iff test s.flags).mp h)]

theorem cost_jumpOn (test : Cond) (adr : Word) (f : Flags) (rule : JccNotTaken) :
    cost (jumpOn test adr) f rule = jumpCost (f.holds test) rule := by
  cases test <;> rfl

theorem cost_jumpOn_taken {test : Cond} {f : Flags} (h : Holds test f) (adr : Word) (rule : JccNotTaken) :
    cost (jumpOn test adr) f rule = ⟨3, 10⟩ := by
  rw [cost_jumpOn, (holds_iff test f).mp h]
  rfl

theorem cost_jumpOn_not_taken {test : Cond} {f : Flags} (h : ¬ Holds test f) (adr : Word) (rule : JccNotTaken) :
    cost (jumpOn test adr) f rule = jumpCost false rule := by
  rw [cost_jumpOn, (not_holds_iff test f).mp h]

/-! ### The obligation -/

/-- Settles O25: a jump that is taken writes PC alone, `exec_jumpOn_taken`; one that is not taken leaves the state as
it is, with PC at the next instruction, `exec_jumpOn_not_taken`. -/
theorem conditionalJumpsTestOneFlag : Obligations.ConditionalJumpsTestOneFlag := by
  intro test
  refine ⟨words3_jumpOn test, fun adr s => ⟨?lands, fun rule h => cost_jumpOn_taken h adr rule,
    fun h => ⟨cost_jumpOn_not_taken h adr .clocks10, cost_jumpOn_not_taken h adr .clocks5⟩⟩⟩
  by_cases h : Holds test s.flags
  case pos =>
    exact ⟨_, exec_jumpOn_taken h adr, fun _ => State.setPc_pc s adr, fun hn => absurd h hn, rfl, rfl,
      frame_setPc s adr⟩
  case neg => exact ⟨s, exec_jumpOn_not_taken h adr, fun ht => absurd ht h, fun _ => rfl, rfl, rfl, Frame.refl s⟩

end Sys2Proof.ConditionalJumps
end

section
/-! PROOFS. Encoding (30_encoding.md): a form with its operand bytes, what `decode` reads by it, and the round trip in
both directions. -/

namespace Sys2Proof

/-! ### A form and its operand bytes (30_encoding.md R71, R73) -/

/-- The instruction of a form whose operand bytes are those of `w`, B2 the low one; a shorter form leaves out the
bytes it has no room for. -/
def Form.instr : Form → Word → Instr
  | .one i, _ => i
  | .two mk, w => mk (lo8 w)
  | .three mk, w => mk w

/-- The bytes of an instruction of the form with first byte `b1` and operand bytes of `w`. -/
def Form.bytes (f : Form) (b1 : Byte) (w : Word) : List Byte := [b1, lo8 w, hi8 w].take f.length

/-- The decoder reads the bytes of the first byte's form, whatever follows (30_encoding.md R81). -/
theorem decode_bytes (b1 : Byte) (w : Word) (rest : List Byte) :
    decode ((decodeForm b1).bytes b1 w ++ rest) = .ok ((decodeForm b1).instr w, rest) := by
  cases h : decodeForm b1 <;> simp [Form.bytes, Form.length, Form.instr, decode, h]

/-- What decodes was read from the bytes of the first byte's form. -/
theorem eq_bytes_of_decode {bytes rest : List Byte} {i : Instr} (h : decode bytes = .ok (i, rest)) :
    ∃ b1 w, i = (decodeForm b1).instr w ∧ bytes = (decodeForm b1).bytes b1 w ++ rest := by
  unfold decode at h
  split at h
  case h_1 => cases h
  case h_2 b1 tail =>
    split at h
    case h_1 hf =>
      cases h
      exact ⟨b1, 0, by simp [hf, Form.instr], by simp [hf, Form.bytes, Form.length]⟩
    case h_2 b2 _ hf =>
      cases h
      exact ⟨b1, pairUp 0 b2, by simp [hf, Form.instr], by simp [hf, Form.bytes, Form.length]⟩
    case h_3 b2 b3 _ hf =>
      cases h
      exact ⟨b1, pairUp b3 b2, by simp [hf, Form.instr], by simp [hf, Form.bytes, Form.length]⟩
    case h_4 => cases h

/-! ### Encoding, then decoding -/

theorem decodeForm_quadrant3 (ddd sss : BitVec 3) : decodeForm (opByte 0b11 ddd sss) = decodeQuadrant3 ddd sss := by
  simp [decodeForm]

/-- In quadrant 11, sss = 111 is RST, whatever its number (30_encoding.md R79). -/
theorem decodeForm_rst (n : BitVec 3) : decodeForm (opByte 0b11 n 0b111) = .one (.rst n) :=
  decodeForm_quadrant3 n 0b111

theorem decode_enc1 {b1 : Byte} {i : Instr} (h : decodeForm b1 = .one i) (rest : List Byte) :
    decode (enc1 b1 ++ rest) = .ok (i, rest) := by
  simpa [h, enc1, Form.bytes, Form.length, Form.instr] using decode_bytes b1 0 rest

theorem decode_enc2 {b1 : Byte} {mk : Byte → Instr} (h : decodeForm b1 = .two mk) (b2 : Byte) (rest : List Byte) :
    decode ([b1, b2] ++ rest) = .ok (mk b2, rest) := by
  simpa [h, Form.bytes, Form.length, Form.instr] using decode_bytes b1 (pairUp 0 b2) rest

theorem decode_enc3 {b1 : Byte} {mk : Word → Instr} (h : decodeForm b1 = .three mk) (w : Word) (rest : List Byte) :
    decode (enc3 b1 w ++ rest) = .ok (mk w, rest) := by
  simpa [h, enc3, Form.bytes, Form.length, Form.instr] using decode_bytes b1 w rest

/-- Settles O38: the first byte of each encoding has the form that builds the instruction back, and the operand bytes
are read as they were written, `decode_enc1`, `decode_enc2` and `decode_enc3`. -/
theorem decodeInvertsEncode : Obligations.DecodeInvertsEncode := by
  intro i rest hwf
  cases i with
  | mviR r d8 => cases r <;> exact decode_enc2 rfl d8 rest
  | mviM v | adi v | aci v | sui v | sbi v | ani v | ori v | xri v | cpi v | inPort v | outPort v =>
    exact decode_enc2 rfl v rest
  | lxi p d16 => cases p <;> exact decode_enc3 rfl d16 rest
  | lxiSp w | sta w | shld w | lda w | lhld w | jmp w | jnz w | jz w | jnc w | jc w | jpo w | jpe w | jp w | jm w
  | call w | cnz w | cz w | cnc w | cc w | cpo w | cpe w | cp w | cm w => exact decode_enc3 rfl w rest
  | stax p | ldax p =>
    cases p with
    | bc | de => exact decode_enc1 rfl rest
    | hl => cases hwf
  | movRR dst src => cases dst <;> cases src <;> exact decode_enc1 rfl rest
  | movMR r | movRM r | addR r | adcR r | subR r | sbbR r | inrR r | dcrR r | anaR r | oraR r | xraR r | cmpR r =>
    cases r <;> exact decode_enc1 rfl rest
  | dad p | inx p | dcx p | push p | pop p => cases p <;> exact decode_enc1 rfl rest
  | rst n => exact decode_enc1 (decodeForm_rst n) rest
  | unused code => cases code <;> exact decode_enc1 rfl rest
  | _ => exact decode_enc1 rfl rest

/-! ### Decoding, then encoding -/

/-- The form builds well-formed instructions alone, whose encoding is `b1` and the operand bytes. -/
def Form.EncodesTo (f : Form) (b1 : Byte) : Prop := ∀ w, (f.instr w).wf = true ∧ encode (f.instr w) = f.bytes b1 w

/-- A 3-bit field has eight values. -/
theorem forall_field {P : BitVec 3 → Prop} (h0 : P 0) (h1 : P 1) (h2 : P 2) (h3 : P 3) (h4 : P 4) (h5 : P 5) (h6 : P 6)
    (h7 : P 7) (c : BitVec 3) : P c := by
  have hc : c = 0 ∨ c = 1 ∨ c = 2 ∨ c = 3 ∨ c = 4 ∨ c = 5 ∨ c = 6 ∨ c = 7 := by
    revert c
    decide
  rcases hc with rfl | rfl | rfl | rfl | rfl | rfl | rfl | rfl <;> assumption

theorem decodeQuadrant0_encodesTo (ddd sss : BitVec 3) :
    (decodeQuadrant0 ddd sss).EncodesTo (opByte 0b00 ddd sss) := by
  revert ddd
  apply forall_field <;> revert sss <;> apply forall_field <;> exact fun _ => ⟨rfl, rfl⟩

theorem decodeQuadrant1_encodesTo (ddd sss : BitVec 3) :
    (decodeQuadrant1 ddd sss).EncodesTo (opByte 0b01 ddd sss) := by
  revert ddd
  apply forall_field <;> revert sss <;> apply forall_field <;> exact fun _ => ⟨rfl, rfl⟩

theorem decodeQuadrant2_encodesTo (aaa sss : BitVec 3) :
    (decodeQuadrant2 aaa sss).EncodesTo (opByte 0b10 aaa sss) := by
  revert aaa
  apply forall_field <;> revert sss <;> apply forall_field <;> exact fun _ => ⟨rfl, rfl⟩

theorem decodeQuadrant3_encodesTo (ddd sss : BitVec 3) :
    (decodeQuadrant3 ddd sss).EncodesTo (opByte 0b11 ddd sss) := by
  revert ddd
  apply forall_field <;> revert sss <;> apply forall_field <;> exact fun _ => ⟨rfl, rfl⟩

/-- A first byte is its three fields (30_encoding.md R71). -/
theorem opByte_fields (b1 : Byte) : opByte (fieldGG b1) (fieldDDD b1) (fieldSSS b1) = b1 := by
  revert b1
  decide

/-- No bit of a first byte is dropped: its form encodes to it, in each of the four quadrants (30_encoding.md R87). -/
theorem decodeForm_encodesTo (b1 : Byte) : (decodeForm b1).EncodesTo b1 := by
  rw [← opByte_fields b1]
  have hgg : ∀ gg : BitVec 2, gg = 0b00 ∨ gg = 0b01 ∨ gg = 0b10 ∨ gg = 0b11 := by decide
  rcases hgg (fieldGG b1) with h | h | h | h <;> rw [h]
  · rw [decodeForm_quadrant0]
    exact decodeQuadrant0_encodesTo _ _
  · rw [decodeForm_quadrant1]
    exact decodeQuadrant1_encodesTo _ _
  · rw [decodeForm_quadrant2]
    exact decodeQuadrant2_encodesTo _ _
  · rw [decodeForm_quadrant3]
    exact decodeQuadrant3_encodesTo _ _

/-- Settles O39: the bytes are those of the first byte's form, `eq_bytes_of_decode`, which encodes to them. -/
theorem encodeInvertsDecode : Obligations.EncodeInvertsDecode := by
  intro bytes i rest h
  obtain ⟨b1, w, rfl, rfl⟩ := eq_bytes_of_decode h
  obtain ⟨hwf, henc⟩ := decodeForm_encodesTo b1 w
  exact ⟨hwf, by rw [henc]⟩

/-! ### Lengths and examples -/

/-- Settles O40: the first clause for each of the 256 first bytes, the counts by counting. -/
theorem firstByteGivesTheLength : Obligations.FirstByteGivesTheLength :=
  ⟨by decide, rfl, rfl, rfl⟩

/-- Settles O41: each word is decoded by its first byte. -/
theorem specExamplesDecode : Obligations.SpecExamplesDecode :=
  ⟨rfl, rfl, rfl, rfl, rfl, rfl, rfl, rfl, rfl, rfl⟩

end Sys2Proof
end

section
/-! PROOFS. What the body of an instruction can do, once for all instructions: a chain of updates, each one that the
claims' tables allow the instruction. Every statement about all instructions, and the frame of each instruction, is read
off the kinds of update. -/

namespace Sys2Proof.Effects

open Sys2Proof.Machine Sys2Proof.Claims

/-! ### Updates -/

/-- From flags `f` to flags `g` the instruction changes no flag but those 10_state.md R23 lists for it. -/
def FlagsKept (i : Instr) (f g : Flags) : Prop :=
  (writesAllFlags i = false → writesAllButCarry i = false → writesCarryAlone i = false → g = f) ∧
    (writesAllButCarry i = true → g.cy = f.cy) ∧ (writesCarryAlone i = true → OnlyCarry f g g.cy)

/-- One update the tables allow instruction `i` when it runs from state `start`. -/
inductive Update (i : Instr) (start : State) : State → State → Prop
  | reg {s : State} {r : Reg8} (v : Byte) (h : r ∈ destinations i) : Update i start s (s.setReg r v)
  | sp {s : State} (w : Word) (h : writesSp i = true) : Update i start s (s.setSp w)
  | pc {s : State} (w : Word) (h : transfersControl i = true) : Update i start s (s.setPc w)
  | flags {s : State} {f : Flags} (h : FlagsKept i s.flags f) : Update i start s (s.setFlags f)
  | store {s : State} {a : Word} (v : Byte) (h : a ∈ storeAddresses i start) : Update i start s (s.writeByte a v)
  | countIn {s : State} {port : Byte} (h : i = .inPort port) : Update i start s { s with inCount := s.inCount + 1 }
  | output {s : State} {port : Byte} (x : Byte × Byte) (h : i = .outPort port) :
      Update i start s { s with ioOut := s.ioOut ++ [x] }
  | halt {s : State} (h : i = .hlt) : Update i start s { s with halted := true }
  | enable {s : State} (h : i = .ei) : Update i start s { s with eiPending := true }
  | disable {s : State} (h : i = .di) : Update i start s { s with inte := false, eiPending := false }

/-- A chain of updates from the state the instruction starts in. -/
abbrev Updates (i : Instr) (start : State) : State → Prop := Relation.ReflTransGen (Update i start) start

/-- What holds at the start and what every update keeps holds at the end of a chain. -/
theorem Updates.invariant {i : Instr} {s t : State} (h : Updates i s t) {P : State → Prop} (hs : P s)
    (hstep : ∀ u v, Update i s u v → P u → P v) : P t := by
  induction h with
  | refl => exact hs
  | tail _ huv ih => exact hstep _ _ huv ih

/-- What no update changes, a chain of updates does not change. -/
theorem Updates.keeps {α : Type} {i : Instr} {s t : State} (h : Updates i s t) (field : State → α)
    (hstep : ∀ u v, Update i s u v → field v = field u) : field t = field s :=
  h.invariant (P := fun u => field u = field s) rfl fun u v huv hu => (hstep u v huv).trans hu

/-! ### Flags by class -/

theorem FlagsKept.refl (i : Instr) (f : Flags) : FlagsKept i f f :=
  ⟨fun _ _ _ => rfl, fun _ => rfl, fun _ => ⟨rfl, rfl, rfl, rfl, rfl⟩⟩

theorem FlagsKept.trans {i : Instr} {f g k : Flags} (h : FlagsKept i f g) (h' : FlagsKept i g k) :
    FlagsKept i f k := by
  obtain ⟨hall, hbut, hcarry⟩ := h
  obtain ⟨hall', hbut', hcarry'⟩ := h'
  refine ⟨fun h1 h2 h3 => (hall' h1 h2 h3).trans (hall h1 h2 h3), fun hi => (hbut' hi).trans (hbut hi), fun hi => ?_⟩
  obtain ⟨hz, hs, hp, hac, _⟩ := hcarry hi
  obtain ⟨hz', hs', hp', hac', _⟩ := hcarry' hi
  exact ⟨hz'.trans hz, hs'.trans hs, hp'.trans hp, hac'.trans hac, rfl⟩

theorem flagsKept_of_writesAllFlags {i : Instr} (h : writesAllFlags i = true) (hb : writesAllButCarry i = false)
    (hc : writesCarryAlone i = false) (f g : Flags) : FlagsKept i f g :=
  ⟨fun h' => by simp [h] at h', fun h' => by simp [hb] at h', fun h' => by simp [hc] at h'⟩

theorem flagsKept_of_writesAllButCarry {i : Instr} (h : writesAllButCarry i = true) (hc : writesCarryAlone i = false)
    {f g : Flags} (hcy : g.cy = f.cy) : FlagsKept i f g :=
  ⟨fun _ h' => by simp [h] at h', fun _ => hcy, fun h' => by simp [hc] at h'⟩

theorem flagsKept_of_writesCarryAlone {i : Instr} (h : writesCarryAlone i = true) (hb : writesAllButCarry i = false)
    (f : Flags) (cy : Bool) : FlagsKept i f { f with cy := cy } :=
  ⟨fun _ _ h' => by simp [h] at h', fun h' => by simp [hb] at h', fun _ => Logic.onlyCarry_with f cy⟩

/-! ### The shared operations as chains of updates -/

section Operations

variable {i : Instr} {s : State}

theorem updates_setReg {r : Reg8} {v : Byte} (h : r ∈ destinations i) : Updates i s (s.setReg r v) :=
  .single (.reg v h)

theorem updates_setSp {w : Word} (h : writesSp i = true) : Updates i s (s.setSp w) := .single (.sp w h)

theorem updates_setPc {w : Word} (h : transfersControl i = true) : Updates i s (s.setPc w) := .single (.pc w h)

theorem updates_setFlags {f : Flags} (h : FlagsKept i s.flags f) : Updates i s (s.setFlags f) := .single (.flags h)

theorem updates_writeByte {a : Word} {v : Byte} (h : a ∈ storeAddresses i s) : Updates i s (s.writeByte a v) :=
  .single (.store v h)

/-- Writing a pair is writing its two registers, in a state reached already. -/
theorem Updates.setPair {t : State} {p : Pair} {w : Word} (h : Updates i s t) (hp : pairRegs p ⊆ destinations i) :
    Updates i s (t.setPair p w) :=
  (h.tail (.reg (hi8 w) (hp (by simp [pairRegs_eq])))).tail (.reg (lo8 w) (hp (by simp [pairRegs_eq])))

theorem updates_setPair {p : Pair} {w : Word} (h : pairRegs p ⊆ destinations i) : Updates i s (s.setPair p w) :=
  Updates.setPair .refl h

theorem updates_setRegFlags {r : Reg8} {v : Byte} {f : Flags} (hr : r ∈ destinations i) (hf : FlagsKept i s.flags f) :
    Updates i s ((s.setReg r v).setFlags f) :=
  (updates_setReg hr).tail (.flags hf)

/-- A and all five flags take a result. -/
theorem updates_setAcc {r : AluResult} (ha : .a ∈ destinations i) (h : writesAllFlags i = true)
    (hb : writesAllButCarry i = false) (hc : writesCarryAlone i = false) : Updates i s (s.setAcc r) :=
  updates_setRegFlags ha (flagsKept_of_writesAllFlags h hb hc _ _)

/-- A and CY take the result of a rotate. -/
theorem updates_setRotated {r : Byte × Bool} (ha : .a ∈ destinations i) (h : writesCarryAlone i = true)
    (hb : writesAllButCarry i = false) : Updates i s (s.setRotated r) :=
  updates_setRegFlags ha (flagsKept_of_writesCarryAlone h hb _ _)

/-- A push, from a state that has the SP the instruction started with. -/
theorem Updates.push16 {t : State} {w : Word} (h : Updates i s t) (hi : s.sp - 1 ∈ storeAddresses i s)
    (lo : s.sp - 2 ∈ storeAddresses i s) (hsp : writesSp i = true) (ht : t.sp = s.sp) : Updates i s (t.push16 w) := by
  unfold State.push16
  rw [ht]
  exact ((h.tail (.store _ hi)).tail (.store _ lo)).tail (.sp _ hsp)

/-- A call, from a state that has the SP the instruction started with. -/
theorem Updates.callTo {t : State} {adr : Word} (h : Updates i s t) (hst : storeAddresses i s = [s.sp - 1, s.sp - 2])
    (hsp : writesSp i = true) (hpc : transfersControl i = true) (ht : t.sp = s.sp) : Updates i s (t.callTo adr) :=
  (h.push16 (by simp [hst]) (by simp [hst]) hsp ht).tail (.pc adr hpc)

/-- The addresses a push stores to (20_memory.md R58). -/
theorem storeAddresses_push (s : State) :
    ((pushCycles s).filter BusCycle.writesMemory).map BusCycle.addr = [s.sp - 1, s.sp - 2] := rfl

/-- A conditional call pushes only when it is made. -/
theorem updates_callIf {test : Cond} {adr : Word}
    (hd : dataCycles i s = if s.flags.holds test then pushCycles s else []) (hsp : writesSp i = true)
    (hpc : transfersControl i = true) : Updates i s (s.callIf test adr) := by
  cases h : s.flags.holds test with
  | false => rw [State.callIf_not_taken h]
  | true =>
    rw [State.callIf_taken h]
    refine Updates.callTo .refl ?_ hsp hpc rfl
    rw [storeAddresses, hd, if_pos h, storeAddresses_push]

theorem updates_jumpIf {test : Cond} {adr : Word} (hpc : transfersControl i = true) :
    Updates i s (s.jumpIf test adr) := by
  cases h : s.flags.holds test with
  | false => rw [State.jumpIf_not_taken h]
  | true =>
    rw [State.jumpIf_taken h]
    exact updates_setPc hpc

theorem updates_returnTo (hsp : writesSp i = true) (hpc : transfersControl i = true) : Updates i s s.returnTo :=
  (updates_setSp hsp).tail (.pc _ hpc)

theorem updates_retIf {test : Cond} (hsp : writesSp i = true) (hpc : transfersControl i = true) :
    Updates i s (s.retIf test) := by
  cases h : s.flags.holds test with
  | false => rw [State.retIf_not_taken h]
  | true =>
    rw [State.retIf_taken h]
    exact updates_returnTo hsp hpc

end Operations

/-! ### Every instruction is a chain of updates -/

/-- What is said of the next state, where there is one. -/
def OfNext (P : State → Prop) : Answer → Prop
  | .next t => P t
  | .fault _ => True
  | .refused _ => True

theorem OfNext.of_next {P : State → Prop} {r : Answer} {t : State} (h : OfNext P r) (hr : r = .next t) : P t := by
  subst hr
  exact h

theorem ofNext_unused (code : UnusedCode) (s : State) :
    OfNext (Updates (.unused code) s) (exec (.unused code) s) := by
  show OfNext _ (execUnused code s)
  unfold execUnused
  split
  · trivial
  · show Updates _ s (s.runLike8080 code)
    cases code with
    | x08 | x10 | x18 | x20 | x28 | x30 | x38 => exact .refl
    | xCB => exact updates_setPc rfl
    | xD9 => exact updates_returnTo rfl rfl
    | xDD | xED | xFD => exact Updates.callTo (updates_setPc rfl) rfl rfl rfl rfl

theorem ofNext_exec (i : Instr) (s : State) : OfNext (Updates i s) (exec i s) := by
  cases i with
  | mviR r _ | movRR r _ | movRM r => exact updates_setReg (List.mem_singleton_self r)
  | lda _ | ldax _ | cma => exact updates_setReg (List.mem_singleton_self _)
  | mviM _ | movMR _ | sta _ | stax _ => exact updates_writeByte (List.mem_singleton_self _)
  | shld adr =>
    have hst : storeAddresses (.shld adr) s = [adr, adr + 1] := rfl
    exact (updates_writeByte (by simp [hst])).tail (.store _ (by simp [hst]))
  | lxi _ _ | lhld _ => exact updates_setPair (List.Subset.refl _)
  | xchg => exact (updates_setPair (p := .hl) (by decide)).setPair (by decide)
  | lxiSp _ | sphl => exact updates_setSp rfl
  | addR _ | addM | adi _ | adcR _ | adcM | aci _ | subR _ | subM | sui _ | sbbR _ | sbbM | sbi _ | daa | anaR _ | anaM
  | ani _ | oraR _ | oraM | ori _ | xraR _ | xraM | xri _ =>
    exact updates_setAcc (List.mem_singleton_self _) rfl rfl rfl
  | cmpR _ | cmpM | cpi _ => exact updates_setFlags (flagsKept_of_writesAllFlags rfl rfl rfl _ _)
  | inrR r | dcrR r =>
    exact updates_setRegFlags (List.mem_singleton_self r) (flagsKept_of_writesAllButCarry rfl rfl rfl)
  | inrM | dcrM =>
    exact (updates_writeByte (List.mem_singleton_self _)).tail (.flags (flagsKept_of_writesAllButCarry rfl rfl rfl))
  | inx p | dcx p =>
    cases p with
    | bc | de | hl => exact updates_setPair (List.Subset.refl _)
    | sp => exact updates_setSp rfl
  | dad _ =>
    exact (updates_setPair (p := .hl) (List.Subset.refl _)).tail (.flags (flagsKept_of_writesCarryAlone rfl rfl _ _))
  | stc | cmc => exact updates_setFlags (flagsKept_of_writesCarryAlone rfl rfl _ _)
  | rlc | rrc | ral | rar => exact updates_setRotated (List.mem_singleton_self _) rfl rfl
  | jmp _ | pchl => exact updates_setPc rfl
  | jnz _ | jz _ | jnc _ | jc _ | jpo _ | jpe _ | jp _ | jm _ => exact updates_jumpIf rfl
  | push _ | pushPsw => exact Updates.push16 .refl (.head _) (.tail _ (.head _)) rfl rfl
  | pop p => exact (updates_setSp rfl).setPair (List.Subset.refl _)
  | popPsw =>
    exact ((updates_setSp rfl).tail (.reg _ (List.mem_singleton_self _))).tail
      (.flags (flagsKept_of_writesAllFlags rfl rfl rfl _ _))
  | xthl =>
    have hst : storeAddresses .xthl s = [s.sp + 1, s.sp] := rfl
    have hwrites : Updates .xthl s ((s.writeByte (s.sp + 1) (s.reg .h)).writeByte s.sp (s.reg .l)) :=
      (updates_writeByte (by simp [hst])).tail (.store _ (by simp [hst]))
    exact hwrites.setPair (List.Subset.refl _)
  | call _ | rst _ => exact Updates.callTo .refl rfl rfl rfl rfl
  | cnz _ | cz _ | cnc _ | cc _ | cpo _ | cpe _ | cp _ | cm _ => exact updates_callIf rfl rfl rfl
  | ret => exact updates_returnTo rfl rfl
  | rnz | rz | rnc | rc | rpo | rpe | rp | rm => exact updates_retIf rfl rfl
  | inPort port => exact (updates_setReg (List.mem_singleton_self _)).tail (.countIn rfl)
  | outPort port => exact .single (.output _ rfl)
  | nop => exact .refl
  | hlt => exact .single (.halt rfl)
  | ei => exact .single (.enable rfl)
  | di => exact .single (.disable rfl)
  | unused code => exact ofNext_unused code s

/-- What an instruction can do: the updates the tables allow it, and nothing else. -/
theorem exec_updates {i : Instr} {s t : State} (h : exec i s = .next t) : Updates i s t := (ofNext_exec i s).of_next h

/-! ### What the chains keep -/

section Kept

variable {i : Instr} {s t : State}

theorem exec_reg (h : exec i s = .next t) {r : Reg8} (hr : r ∉ destinations i) : t.reg r = s.reg r := by
  refine Updates.keeps (exec_updates h) (State.reg · r) fun u v huv => ?_
  cases huv with
  | reg v hd => exact (State.reg_setReg u _ r v).trans (if_neg (ne_of_mem_of_not_mem hd hr).symm)
  | _ => rfl

theorem exec_sp (h : exec i s = .next t) (hi : writesSp i = false) : t.sp = s.sp := by
  refine Updates.keeps (exec_updates h) State.sp fun u v huv => ?_
  cases huv with
  | sp _ hw => simp [hi] at hw
  | _ => rfl

theorem exec_pc (h : exec i s = .next t) (hi : transfersControl i = false) : t.pc = s.pc := by
  refine Updates.keeps (exec_updates h) State.pc fun u v huv => ?_
  cases huv with
  | pc _ hw => simp [hi] at hw
  | _ => rfl

theorem exec_flagsKept (h : exec i s = .next t) : FlagsKept i s.flags t.flags := by
  refine Updates.invariant (P := fun u => FlagsKept i s.flags u.flags) (exec_updates h) (.refl i _) fun u v huv hu => ?_
  cases huv with
  | flags hf => exact hu.trans hf
  | _ => exact hu

theorem exec_inte (h : exec i s = .next t) (hi : i ≠ .di) : t.inte = s.inte := by
  refine Updates.keeps (exec_updates h) State.inte fun u v huv => ?_
  cases huv with
  | disable hd => exact absurd hd hi
  | _ => rfl

theorem exec_eiPending (h : exec i s = .next t) (hd : i ≠ .di) (he : i ≠ .ei) : t.eiPending = s.eiPending := by
  refine Updates.keeps (exec_updates h) State.eiPending fun u v huv => ?_
  cases huv with
  | enable hi => exact absurd hi he
  | disable hi => exact absurd hi hd
  | _ => rfl

theorem exec_halted (h : exec i s = .next t) (hi : i ≠ .hlt) : t.halted = s.halted := by
  refine Updates.keeps (exec_updates h) State.halted fun u v huv => ?_
  cases huv with
  | halt hh => exact absurd hh hi
  | _ => rfl

theorem exec_inCount (h : exec i s = .next t) (hi : ∀ port, i ≠ .inPort port) : t.inCount = s.inCount := by
  refine Updates.keeps (exec_updates h) State.inCount fun u v huv => ?_
  cases huv with
  | countIn hp => exact absurd hp (hi _)
  | _ => rfl

theorem exec_ioOut (h : exec i s = .next t) (hi : ∀ port, i ≠ .outPort port) : t.ioOut = s.ioOut := by
  refine Updates.keeps (exec_updates h) State.ioOut fun u v huv => ?_
  cases huv with
  | output _ hp => exact absurd hp (hi _)
  | _ => rfl

theorem exec_sameRun (h : exec i s = .next t) : SameRun s t := by
  refine Updates.invariant (exec_updates h) ⟨rfl, rfl, rfl, rfl, rfl, rfl⟩ fun u v huv hu => ?_
  cases huv <;> exact hu

/-- Every instruction keeps the memory's canonical form. -/
theorem exec_wf (h : exec i s = .next t) (hwf : s.mem.wf = true) : t.mem.wf = true := by
  refine Updates.invariant (P := fun u => u.mem.wf = true) (exec_updates h) hwf fun u v huv hu => ?_
  cases huv with
  | store v _ => exact State.wf_writeByte hu _ v
  | _ => exact hu

theorem exec_sameMemory (h : exec i s = .next t) (hwf : s.mem.wf = true) : SameMemory s t (storeAddresses i s) := by
  intro a ha k
  suffices t.mem.wf = true ∧ t.readByte k a = s.readByte k a from this.2
  refine Updates.invariant (P := fun u => u.mem.wf = true ∧ u.readByte k a = s.readByte k a) (exec_updates h)
    ⟨hwf, rfl⟩ fun u v huv hu => ?_
  obtain ⟨huwf, hread⟩ := hu
  cases huv with
  | store v hb =>
    refine ⟨State.wf_writeByte huwf _ v, ?_⟩
    rw [State.readByte_writeByte_other huwf (ne_of_mem_of_not_mem hb ha).symm, hread]
  | _ => exact ⟨huwf, hread⟩

/-- A cell that is not RAM holds after a write what it held (20_memory.md R46). -/
theorem get_memAfter_not_ram {a : Word} (hwf : s.mem.wf = true) (ha : s.kindAt a ≠ .ram) (b : Word) (v : Byte) :
    (s.memAfter b v).get a.toNat = s.mem.get a.toNat := by
  cases hb : s.kindAt b with
  | ram =>
    have hne : a.toNat ≠ b.toNat := fun he => ha (by rw [BitVec.eq_of_toNat_eq he, hb])
    rw [State.memAfter, hb, Memory.get_put hwf, if_neg hne]
  | rom | absent => rw [State.memAfter, hb]

/-- No instruction writes a cell that is not RAM. -/
theorem exec_not_ram (h : exec i s = .next t) (hwf : s.mem.wf = true) {a : Word} (ha : s.kindAt a ≠ .ram) :
    t.mem.get a.toNat = s.mem.get a.toNat := by
  suffices t.mem.wf = true ∧ t.kindAt a ≠ .ram ∧ t.mem.get a.toNat = s.mem.get a.toNat from this.2.2
  refine Updates.invariant
    (P := fun u => u.mem.wf = true ∧ u.kindAt a ≠ .ram ∧ u.mem.get a.toNat = s.mem.get a.toNat) (exec_updates h)
    ⟨hwf, ha, rfl⟩ fun u v huv hu => ?_
  obtain ⟨huwf, hkind, hget⟩ := hu
  cases huv with
  | store v _ => exact ⟨State.wf_writeByte huwf _ v, hkind, (get_memAfter_not_ram huwf hkind _ v).trans hget⟩
  | _ => exact ⟨huwf, hkind, hget⟩

/-! ### The frame of an instruction -/

/-- The instruction is one of the five that write INTE, ei_pending, halted, in_count or io_out. -/
def writesControl : Instr → Bool
  | .inPort _ | .outPort _ | .hlt | .ei | .di => true
  | _ => false

theorem ne_of_writesControl {j : Instr} (hi : writesControl i = false) (hj : writesControl j = true) : i ≠ j := by
  rintro rfl
  exact Bool.false_ne_true (hi.symm.trans hj)

/-- The frame of every other instruction: its destinations and the addresses it stores to. -/
theorem exec_frame (h : exec i s = .next t) (hwf : s.mem.wf = true) (hi : writesControl i = false) :
    Frame s t (destinations i) (storeAddresses i s) where
  sameRegs _ hr := exec_reg h hr
  sameMemory := exec_sameMemory h hwf
  sameControl :=
    ⟨exec_inte h (ne_of_writesControl hi rfl),
      exec_eiPending h (ne_of_writesControl hi rfl) (ne_of_writesControl hi rfl),
      exec_halted h (ne_of_writesControl hi rfl)⟩
  sameIo :=
    ⟨exec_inCount h fun _ => ne_of_writesControl hi rfl, exec_ioOut h fun _ => ne_of_writesControl hi rfl⟩
  sameRun := exec_sameRun h

end Kept

/-! ### Another PC -/

/-- A jump goes where it goes from any PC. -/
theorem jumpIf_setPc (s : State) (test : Cond) (adr w : Word) :
    ((s.setPc w).jumpIf test adr).setPc 0 = (s.jumpIf test adr).setPc 0 := by
  cases h : s.flags.holds test with
  | false =>
    rw [State.jumpIf_not_taken h, State.jumpIf_not_taken (s := s.setPc w) h]
    rfl
  | true =>
    rw [State.jumpIf_taken h, State.jumpIf_taken (s := s.setPc w) h]
    rfl

theorem retIf_setPc (s : State) (test : Cond) (w : Word) :
    ((s.setPc w).retIf test).setPc 0 = (s.retIf test).setPc 0 := by
  cases h : s.flags.holds test with
  | false =>
    rw [State.retIf_not_taken h, State.retIf_not_taken (s := s.setPc w) h]
    rfl
  | true =>
    rw [State.retIf_taken h, State.retIf_taken (s := s.setPc w) h]
    rfl

/-- An instruction that does not save or read PC does from another PC the same but for PC. -/
theorem ofNext_exec_setPc (i : Instr) (s : State) (w : Word) (hi : usesPc i = false) :
    OfNext (fun t => ∃ u, exec i (s.setPc w) = .next u ∧ u.setPc 0 = t.setPc 0) (exec i s) := by
  cases i with
  | call _ | cnz _ | cz _ | cnc _ | cc _ | cpo _ | cpe _ | cp _ | cm _ | rst _ | unused _ => cases hi
  | jnz _ | jz _ | jnc _ | jc _ | jpo _ | jpe _ | jp _ | jm _ => exact ⟨_, rfl, jumpIf_setPc s _ _ w⟩
  | rnz | rz | rnc | rc | rpo | rpe | rp | rm => exact ⟨_, rfl, retIf_setPc s _ w⟩
  | inx p | dcx p => cases p <;> exact ⟨_, rfl, rfl⟩
  | dad p => cases p <;> exact ⟨_, rfl, rfl⟩
  | _ => exact ⟨_, rfl, rfl⟩

/-! ### The obligations -/

/-- Settles O42: a chain of allowed updates stores at the instruction's store addresses alone, `exec_sameMemory`. -/
theorem onlyStoreAddressesChange : Obligations.OnlyStoreAddressesChange :=
  fun _ _ _ hwf h => exec_sameMemory h hwf

/-- Settles O43: `exec_pc` for the PC left, `ofNext_exec_setPc` for the PC not read. -/
theorem onlyControlTransfersTouchPc : Obligations.OnlyControlTransfersTouchPc :=
  ⟨fun _ _ _ h hi => exec_pc h hi, fun i s _ w h hi => (ofNext_exec_setPc i s w hi).of_next h⟩

/-- Settles O44: along the chain of updates the flags change within the instruction's class, `exec_flagsKept`. -/
theorem unlistedFlagsKeepTheirValue : Obligations.UnlistedFlagsKeepTheirValue :=
  fun _ _ _ h => exec_flagsKept h

/-- Settles O45: `exec_reg` and `exec_sp`. -/
theorem onlyNamedRegistersChange : Obligations.OnlyNamedRegistersChange :=
  fun _ _ _ h => ⟨fun _ hr => exec_reg h hr, fun hi => exec_sp h hi⟩

/-- Settles O46: one lemma for each field, by the kinds of update that write it. -/
theorem onlyControlInstructionsTouchControl : Obligations.OnlyControlInstructionsTouchControl :=
  fun _ _ _ h => ⟨exec_inte h, exec_eiPending h, exec_halted h, exec_inCount h, exec_ioOut h, exec_sameRun h⟩

end Sys2Proof.Effects
end

section
/-! PROOFS. Stores (20_memory.md R43, R46): what one and two byte writes leave in memory, and the store, direct-HL and
exchange instructions of 40_data_transfer.md and 44_stack_io_control.md R225. -/

namespace Sys2Proof.Claims

open Sys2Proof.Machine

/-! ### Stored bytes -/

theorem stored_writeByte {s : State} (hwf : s.mem.wf = true) (a : Word) (v : Byte) :
    Stored s (s.writeByte a v) a v :=
  ⟨fun hk k => State.readByte_writeByte_ram hwf hk v k, fun hk k => by rw [State.writeByte_not_ram hk]⟩

/-- A stored byte stays stored while the cell reads the same. -/
theorem Stored.of_readByte {s t u : State} {a : Word} {v : Byte} (h : Stored s t a v)
    (hread : ∀ k, u.readByte k a = t.readByte k a) : Stored s u a v :=
  ⟨fun hk k => (hread k).trans (h.1 hk k), fun hk k => (hread k).trans (h.2 hk k)⟩

/-- Of two writes the first is read back where the second goes elsewhere. -/
theorem stored_writeByte_first {s : State} (hwf : s.mem.wf = true) {a b : Word} (hab : a ≠ b) (v w : Byte) :
    Stored s ((s.writeByte a v).writeByte b w) a v :=
  (stored_writeByte hwf a v).of_readByte fun k =>
    State.readByte_writeByte_other (State.wf_writeByte hwf a v) hab w k

/-- Of two writes the second is read back, and the cell it leaves alone is the one from before the first. -/
theorem stored_writeByte_second {s : State} (hwf : s.mem.wf = true) {a b : Word} (hab : b ≠ a) (v w : Byte) :
    Stored s ((s.writeByte a v).writeByte b w) b w := by
  obtain ⟨hram, hother⟩ := stored_writeByte (State.wf_writeByte hwf a v) b w
  exact ⟨hram, fun hk k => (hother hk k).trans (State.readByte_writeByte_other hwf hab v k)⟩

theorem frame_writeByte {s : State} (hwf : s.mem.wf = true) (a : Word) (v : Byte) :
    Frame s (s.writeByte a v) [] [a] where
  sameRegs _ _ := rfl
  sameMemory _ hx k := State.readByte_writeByte_other hwf (List.ne_of_not_mem_cons hx) v k
  sameControl := ⟨rfl, rfl, rfl⟩
  sameIo := ⟨rfl, rfl⟩
  sameRun := ⟨rfl, rfl, rfl, rfl, rfl, rfl⟩

/-- An instruction whose next state is one byte write stores that byte. -/
theorem storesByte_of_exec_writeByte {i : Instr} {s : State} {a : Word} {v : Byte} (hwf : s.mem.wf = true)
    (h : exec i s = .next (s.writeByte a v)) : StoresByte i s a v :=
  ⟨_, h, stored_writeByte hwf a v, rfl, rfl, rfl, frame_writeByte hwf a v⟩

/-! ### Instructions one after another -/

theorem execAll_nil (s : State) : execAll [] s = some s := rfl

theorem execAll_cons {i : Instr} {s t : State} (h : exec i s = .next t) (rest : List Instr) :
    execAll (i :: rest) s = execAll rest t := by
  rw [execAll, h]

end Sys2Proof.Claims

namespace Sys2Proof.Stores

open Sys2Proof.Machine Sys2Proof.Claims Sys2Proof.Effects

/-! ### What the instructions do -/

theorem exec_mviM (d8 : Byte) (s : State) : exec (.mviM d8) s = .next (s.writeByte (s.pair .hl) d8) := rfl

theorem exec_movMR (src : Reg8) (s : State) :
    exec (.movMR src) s = .next (s.writeByte (s.pair .hl) (s.reg src)) := rfl

theorem exec_sta (adr : Word) (s : State) : exec (.sta adr) s = .next (s.writeByte adr (s.reg .a)) := rfl

theorem exec_stax (p : Pair) (s : State) : exec (.stax p) s = .next (s.writeByte (s.pair p) (s.reg .a)) := rfl

/-- SHLD stores L, then H (20_memory.md R43). -/
theorem exec_shld (adr : Word) (s : State) :
    exec (.shld adr) s = .next ((s.writeByte adr (s.reg .l)).writeByte (adr + 1) (s.reg .h)) := by
  show Host.Outcome.next (s.writeWord adr (s.pair .hl)) = _
  simp [State.writeWord, State.pair, pairHigh, pairLow]

theorem exec_lhld (adr : Word) (s : State) : exec (.lhld adr) s = .next (s.setPair .hl (s.readWord .memRead adr)) := rfl

theorem exec_xthl (s : State) :
    exec .xthl s =
      .next (((s.writeByte (s.sp + 1) (s.reg .h)).writeByte s.sp (s.reg .l)).setPair .hl s.top16) := rfl

/-- pop16 reads the low byte at SP and the high byte above it (20_memory.md R58). -/
theorem top16_eq (s : State) : s.top16 = pairUp (topHigh s) (topLow s) := rfl

/-! ### Their words -/

theorem words1_movMR (src : Reg8) : Words1 (.movMR src) (0x70 + regCode src) := by
  have hb : byte (0x70 + regCode src) = opByte 0b01 codeM src.code := byte_eq_opByte (by simp [regCode_eq, codeM])
  refine words1_of_form ?_ (by rw [hb]; rfl)
  rw [hb, decodeForm_quadrant1]
  simp [decodeQuadrant1]

theorem words1_stax {p : Pair} (h : p ≠ .hl) : Words1 (.stax p) (0x02 + 16 * pairCode p) := by
  cases p with
  | bc => exact words1_of_form rfl rfl
  | de => exact words1_of_form rfl rfl
  | hl => exact absurd rfl h

/-! ### Exchanges made twice -/

/-- XCHG register by register: D and H, E and L change places. -/
theorem exec_xchg_regs (s : State) :
    exec .xchg s =
      .next { s with regs := { s.regs with d := s.regs.h, e := s.regs.l, h := s.regs.d, l := s.regs.e } } := by
  rw [DataTransfer.exec_xchg]
  simp [State.pair, State.setPair, State.setReg, State.reg, pairHigh, pairLow, Regs.set, Regs.get]

theorem xchg_xchg (s : State) : execAll [.xchg, .xchg] s = some s := by
  rw [execAll_cons (exec_xchg_regs s) _, execAll_cons (exec_xchg_regs _) _, execAll_nil]

/-- A read of RAM gives the cell. -/
theorem readByte_ram {s : State} {a : Word} (hk : s.kindAt a = .ram) (k : CycleKind) :
    s.readByte k a = s.mem.get a.toNat := by
  simp [State.readByte, hk]

theorem memAfter_ram {s : State} {a : Word} (hk : s.kindAt a = .ram) (v : Byte) :
    s.memAfter a v = s.mem.put a.toNat v := by
  simp [State.memAfter, hk]

/-- HL and the two cells of the stack change places, and nothing else changes. -/
def exchanged (s : State) : State :=
  { s with
    regs := { s.regs with h := s.mem.get (s.sp + 1).toNat, l := s.mem.get s.sp.toNat }
    mem := (s.mem.put (s.sp + 1).toNat s.regs.h).put s.sp.toNat s.regs.l }

/-- What XTHL does where the two cells are RAM. -/
theorem exec_xthl_ram {s : State} (h0 : s.kindAt s.sp = .ram) (h1 : s.kindAt (s.sp + 1) = .ram) :
    exec .xthl s = .next (exchanged s) := by
  have hmem : ((s.writeByte (s.sp + 1) (s.reg .h)).writeByte s.sp (s.reg .l)).mem =
      (s.mem.put (s.sp + 1).toNat s.regs.h).put s.sp.toNat s.regs.l := by
    rw [State.writeByte_mem, memAfter_ram (s := s.writeByte (s.sp + 1) (s.reg .h)) h0, State.writeByte_mem,
      memAfter_ram h1]
    rfl
  rw [exec_xthl, top16_eq, topHigh, topLow, readByte_ram h0, readByte_ram h1, exchanged, ← hmem]
  simp [State.setPair, State.setReg, Regs.set, pairHigh, pairLow]

/-- Two cells put back after two puts: the memory from before. -/
theorem put_put_put_put_cancel {m : Memory} (hwf : m.wf = true) (a b : Word) (v w : Byte) :
    (((m.put a.toNat v).put b.toNat w).put a.toNat (m.get a.toNat)).put b.toNat (m.get b.toNat) = m := by
  have h1 := Memory.wf_put hwf v a.isLt
  have h2 := Memory.wf_put h1 w b.isLt
  have h3 := Memory.wf_put h2 (m.get a.toNat) a.isLt
  have h4 := Memory.wf_put h3 (m.get b.toNat) b.isLt
  refine Memory.ext_get h4 hwf fun x => ?_
  rw [Memory.get_put h3, Memory.get_put h2, Memory.get_put h1, Memory.get_put hwf]
  split
  · simp [*]
  · split <;> simp [*]

theorem exchanged_exchanged {s : State} (hwf : s.mem.wf = true) : exchanged (exchanged s) = s := by
  have hne : (s.sp + 1).toNat ≠ s.sp.toNat := fun he => word_add_one_ne s.sp (BitVec.eq_of_toNat_eq he)
  have hwf' := Memory.wf_put hwf s.regs.h (s.sp + 1).isLt
  simp only [exchanged, Memory.get_put hwf', Memory.get_put hwf, hne, if_true, if_false, put_put_put_put_cancel hwf]

theorem xthl_xthl {s : State} (hwf : s.mem.wf = true) (h0 : s.kindAt s.sp = .ram) (h1 : s.kindAt (s.sp + 1) = .ram) :
    execAll [.xthl, .xthl] s = some s := by
  have hback : exec .xthl (exchanged s) = .next s := by
    rw [exec_xthl_ram (s := exchanged s) h0 h1, exchanged_exchanged hwf]
  rw [execAll_cons (exec_xthl_ram h0 h1) _, execAll_cons hback _, execAll_nil]

/-! ### The obligations -/

/-- Settles O3: each of the four is one byte write, `storesByte_of_exec_writeByte`. -/
theorem byteStoresWriteOneCell : Obligations.ByteStoresWriteOneCell := by
  refine ⟨⟨words2_of_form rfl fun _ => rfl, fun d8 => ⟨fun _ _ => rfl, fun s hwf => ?mviM⟩⟩,
    fun src => ⟨words1_movMR src, fun _ _ => rfl, fun s hwf => ?movMR⟩,
    ⟨words3_of_form rfl fun _ => rfl, fun adr => ⟨fun _ _ => rfl, fun s hwf => ?sta⟩⟩,
    fun p hp => ⟨words1_stax hp, fun _ _ => rfl, fun s hwf => ?stax⟩⟩
  case mviM =>
    rw [pairOf_eq_pair]
    exact storesByte_of_exec_writeByte hwf (exec_mviM d8 s)
  case movMR =>
    rw [pairOf_eq_pair]
    exact storesByte_of_exec_writeByte hwf (exec_movMR src s)
  case sta => exact storesByte_of_exec_writeByte hwf (exec_sta adr s)
  case stax =>
    rw [pairOf_eq_pair]
    exact storesByte_of_exec_writeByte hwf (exec_stax p s)

/-- Settles O4: SHLD is two byte writes at different addresses, LHLD a write of the pair HL. -/
theorem directHlTransfersUseTwoCells : Obligations.DirectHlTransfersUseTwoCells := by
  refine ⟨⟨words3_of_form rfl fun _ => rfl, fun adr => ⟨fun _ _ => rfl, fun s hwf => ?shld⟩⟩,
    ⟨words3_of_form rfl fun _ => rfl, fun adr => ⟨fun _ _ => rfl, fun s => ?lhld⟩⟩⟩
  case shld =>
    have hne := word_add_one_ne adr
    exact ⟨_, exec_shld adr s, stored_writeByte_first hwf hne.symm _ _, stored_writeByte_second hwf hne _ _, rfl, rfl,
      rfl, exec_frame (exec_shld adr s) hwf rfl⟩
  case lhld =>
    refine ⟨_, exec_lhld adr s, ?_, ?_, rfl, rfl, rfl, frame_setPair s .hl _⟩ <;>
      simp [State.readWord, pairHigh, pairLow]

/-- Settles O5: XCHG puts both pairs back; XTHL puts back HL and the two cells of RAM, `exec_xthl_ram`. -/
theorem exchangesTwiceRestoreTheState : Obligations.ExchangesTwiceRestoreTheState :=
  ⟨xchg_xchg, fun _ hwf h0 h1 => xthl_xthl hwf h0 h1⟩

/-- Settles O28: the high byte is written above the low one, each into the other's old place, `exec_xthl`. -/
theorem xthlExchangesHlWithTheStack : Obligations.XthlExchangesHlWithTheStack := by
  refine ⟨words1_of_form rfl rfl, fun _ _ => rfl, fun s hwf => ?_⟩
  have hne := word_add_one_ne s.sp
  refine ⟨_, exec_xthl s, ?high, ?low, ?storedHigh, ?storedLow, rfl, rfl, rfl, ?frame⟩
  case high => simp [top16_eq, pairHigh, pairLow]
  case low => simp [top16_eq, pairLow]
  case storedHigh => exact (stored_writeByte_first hwf hne _ _).of_readByte fun _ => rfl
  case storedLow => exact (stored_writeByte_second hwf hne.symm _ _).of_readByte fun _ => rfl
  case frame =>
    have hstores : storeAddresses .xthl s ⊆ [s.sp, s.sp + 1] := (List.Perm.swap s.sp (s.sp + 1) []).subset
    exact (exec_frame (exec_xthl s) hwf rfl).mono (List.Subset.refl _) hstores

end Sys2Proof.Stores
end

section
/-! PROOFS. The step (60_exceptions.md R273): the sample it uses up, the four things it can do, and what follows for
every step from what holds of every instruction. -/

namespace Sys2Proof.Step

open Sys2Proof.Machine Sys2Proof.Claims Sys2Proof.Effects

/-! ### The sample of the lines (log 8) -/

/-- The state with the next sample of the lines used up. -/
def sampled (s : State) : State := { s with lines := s.lines.tail }

theorem step_eq_stepWith (s : State) : step s = (sampled s).stepWith (sampleOf s) := by
  show s.stepSampled = _
  unfold State.stepSampled sampleOf sampled
  split
  case h_1 h => rw [h, List.headD_nil, List.tail_nil, ← h]
  case h_2 l rest h => rw [h, List.headD_cons, List.tail_cons]

/-- What holds of every sample to come and of a quiet one holds of the next. -/
theorem sampleOf_of_forall {s : State} {P : Sample → Prop} (hq : P .quiet) (h : ∀ l ∈ s.lines, P l) :
    P (sampleOf s) := by
  unfold sampleOf
  cases hs : s.lines with
  | nil => exact hq
  | cons l rest => exact h l (by simp [hs])

theorem accepts_eq_false_iff (s : State) : s.accepts = false ↔ s.inte = false ∨ s.eiPending = true := by
  unfold State.accepts
  cases s.inte <;> cases s.eiPending <;> decide

/-! ### The four things a step can do -/

theorem step_of_reset {s : State} (h : (sampleOf s).reset = true) : step s = .next (sampled s).pulledReset := by
  rw [step_eq_stepWith, State.stepWith, if_pos h]

theorem step_of_accepted {s : State} {n : BitVec 3} (hr : (sampleOf s).reset = false)
    (hi : (sampleOf s).int = some n) (ha : s.accepts = true) : step s = .next ((sampled s).acceptInterrupt n) := by
  have ha' : (sampled s).accepts = true := ha
  rw [step_eq_stepWith, State.stepWith]
  simp [hr, hi, ha']

theorem step_of_noEvent {s : State} (h : NoEvent s) : step s = (sampled s).idleOrRun := by
  obtain ⟨hr, hi⟩ := h
  rw [step_eq_stepWith, State.stepWith]
  rcases hi with hi | hi
  · simp [hr, hi]
  · have ha : (sampled s).accepts = false := (accepts_eq_false_iff s).mpr hi
    cases hint : (sampleOf s).int <;> simp [hr, ha]

theorem step_of_halted {s : State} (h : NoEvent s) (hh : s.halted = true) : step s = .next (sampled s) := by
  have hh' : (sampled s).halted = true := hh
  rw [step_of_noEvent h, State.idleOrRun, if_pos hh']

theorem step_of_running {s : State} (h : NoEvent s) (hh : s.halted = false) : step s = (sampled s).runInstr := by
  have hh' : (sampled s).halted = false := hh
  rw [step_of_noEvent h, State.idleOrRun, hh']
  rfl

/-- What a step that answers a next state has done: reset, acceptance, nothing, or one instruction. -/
theorem step_next {s t : State} (h : step s = .next t) :
    t = (sampled s).pulledReset ∨ (∃ n, t = (sampled s).acceptInterrupt n) ∨ t = sampled s ∨
      ∃ i len u, exec i ((sampled s).advance len) = .next u ∧ t = retire (sampled s) u i := by
  rw [step_eq_stepWith] at h
  rcases (sampled s).stepWith_cases (sampleOf s) with ⟨_, hs⟩ | ⟨_, _, n, _, hs⟩ | ⟨_, _, _, hs⟩ | ⟨_, _, _, hs⟩ <;>
    rw [hs] at h
  · exact .inl (Host.Outcome.next.inj h).symm
  · exact .inr (.inl ⟨n, (Host.Outcome.next.inj h).symm⟩)
  · exact .inr (.inr (.inl (Host.Outcome.next.inj h).symm))
  · obtain ⟨u, hu, rfl⟩ := State.runInstr_next h
    exact .inr (.inr (.inr ⟨_, _, u, hu, rfl⟩))

/-! ### The instruction at PC -/

/-- An answer with its next state, where there is one, changed. -/
def mapNext (f : State → State) : Answer → Answer
  | .next t => .next (f t)
  | .fault r => .fault r
  | .refused r => .refused r

/-- The fetch reads the instruction the bytes at PC decode to, and its length (30_encoding.md R81). -/
theorem fetch_of_decode {s : State} {i : Instr} {rest : List Byte} (h : decode (codeBytes s) = .ok (i, rest)) :
    s.fetch = (i, 3 - rest.length) := by
  have h0 : s.readByte .instructionFetch s.pc = s.codeByte 0 := by
    simp [State.codeByte]
  rw [codeBytes, h0] at h
  unfold State.fetch
  generalize s.codeByte 0 = b1 at h
  cases hf : decodeForm b1 <;> simp [decode, hf] at h <;> obtain ⟨rfl, rfl⟩ := h <;> rfl

/-- A running step with no event runs the instruction the bytes at PC decode to. -/
theorem step_of_decode {s : State} {i : Instr} {rest : List Byte} (h : NoEvent s) (hh : s.halted = false)
    (hd : decode (codeBytes s) = .ok (i, rest)) :
    step s = mapNext (retire (sampled s) · i) (exec i ((sampled s).advance (3 - rest.length))) := by
  have hf : (sampled s).fetch = (i, 3 - rest.length) := fetch_of_decode (s := sampled s) hd
  rw [step_of_running h hh, State.runInstr, hf]
  cases exec i ((sampled s).advance (3 - rest.length)) <;> rfl

theorem step_of_exec {s t : State} {i : Instr} {rest : List Byte} (h : NoEvent s) (hh : s.halted = false)
    (hd : decode (codeBytes s) = .ok (i, rest)) (he : exec i ((sampled s).advance (3 - rest.length)) = .next t) :
    step s = .next (retire (sampled s) t i) := by
  rw [step_of_decode h hh hd, he, mapNext]

/-- A step that answers a next state while an instruction runs has run it. -/
theorem exec_of_step {s t : State} {i : Instr} {rest : List Byte} (h : NoEvent s) (hh : s.halted = false)
    (hd : decode (codeBytes s) = .ok (i, rest)) (hs : step s = .next t) :
    ∃ u, exec i ((sampled s).advance (3 - rest.length)) = .next u ∧ t = retire (sampled s) u i := by
  rw [step_of_decode h hh hd] at hs
  cases hu : exec i ((sampled s).advance (3 - rest.length)) with
  | next u =>
    rw [hu] at hs
    exact ⟨u, rfl, (Host.Outcome.next.inj hs).symm⟩
  | fault r => exact nomatch r
  | refused r =>
    rw [hu] at hs
    cases hs

/-! ### What a step keeps -/

theorem wf_acceptInterrupt {s : State} (hwf : s.mem.wf = true) (n : BitVec 3) :
    (s.acceptInterrupt n).mem.wf = true :=
  State.wf_push16 (s := { s with inte := false, halted := false }) hwf s.pc

/-- A push writes no cell that is not RAM. -/
theorem get_acceptInterrupt_not_ram {s : State} (hwf : s.mem.wf = true) (n : BitVec 3) {a : Word}
    (ha : s.kindAt a ≠ .ram) : (s.acceptInterrupt n).mem.get a.toNat = s.mem.get a.toNat :=
  (get_memAfter_not_ram (s := s.writeByte (s.sp - 1) (hi8 s.pc)) (State.wf_writeByte hwf _ _) ha _ _).trans
    (get_memAfter_not_ram hwf ha _ _)

theorem exec_ioOut_grows {i : Instr} {s t : State} (h : exec i s = .next t) :
    ∃ xs, t.ioOut = s.ioOut ++ xs ∧ xs.length ≤ 1 := by
  by_cases hi : ∃ port, i = .outPort port
  · obtain ⟨port, rfl⟩ := hi
    cases h
    exact ⟨[(port, s.reg .a)], rfl, Nat.le_refl 1⟩
  · exact ⟨[], by rw [exec_ioOut h fun port he => hi ⟨port, he⟩, List.append_nil], Nat.zero_le 1⟩

theorem exec_inCount_grows {i : Instr} {s t : State} (h : exec i s = .next t) :
    t.inCount = s.inCount ∨ t.inCount = s.inCount + 1 := by
  by_cases hi : ∃ port, i = .inPort port
  · obtain ⟨port, rfl⟩ := hi
    cases h
    exact .inr rfl
  · exact .inl (exec_inCount h fun port he => hi ⟨port, he⟩)

/-! ### Other counts -/

/-- The state with other cycle and clock counts. -/
def withCounts (x y : Nat) (s : State) : State := { s with cycles := s.cycles + x, clocks := s.clocks + y }

section Counts

variable (x y : Nat) (s : State)

theorem jumpIf_withCounts (test : Cond) (adr : Word) :
    (withCounts x y s).jumpIf test adr = withCounts x y (s.jumpIf test adr) := by
  cases h : s.flags.holds test with
  | false => rw [State.jumpIf_not_taken h, State.jumpIf_not_taken (s := withCounts x y s) h]
  | true =>
    rw [State.jumpIf_taken h, State.jumpIf_taken (s := withCounts x y s) h]
    rfl

theorem callIf_withCounts (test : Cond) (adr : Word) :
    (withCounts x y s).callIf test adr = withCounts x y (s.callIf test adr) := by
  cases h : s.flags.holds test with
  | false => rw [State.callIf_not_taken h, State.callIf_not_taken (s := withCounts x y s) h]
  | true =>
    rw [State.callIf_taken h, State.callIf_taken (s := withCounts x y s) h]
    rfl

theorem retIf_withCounts (test : Cond) : (withCounts x y s).retIf test = withCounts x y (s.retIf test) := by
  cases h : s.flags.holds test with
  | false => rw [State.retIf_not_taken h, State.retIf_not_taken (s := withCounts x y s) h]
  | true =>
    rw [State.retIf_taken h, State.retIf_taken (s := withCounts x y s) h]
    rfl

theorem execUnused_withCounts (code : UnusedCode) :
    execUnused code (withCounts x y s) = mapNext (withCounts x y) (execUnused code s) := by
  have hp : (withCounts x y s).params = s.params := rfl
  unfold execUnused
  rw [hp]
  cases s.params.unusedOpcodes with
  | refuse => rfl
  | likeIntel8080 => cases code <;> rfl

theorem exec_withCounts (i : Instr) : exec i (withCounts x y s) = mapNext (withCounts x y) (exec i s) := by
  cases i with
  | inx p | dcx p | dad p => cases p <;> rfl
  | jnz _ | jz _ | jnc _ | jc _ | jpo _ | jpe _ | jp _ | jm _ => exact congrArg _ (jumpIf_withCounts x y s _ _)
  | cnz _ | cz _ | cnc _ | cc _ | cpo _ | cpe _ | cp _ | cm _ => exact congrArg _ (callIf_withCounts x y s _ _)
  | rnz | rz | rnc | rc | rpo | rpe | rp | rm => exact congrArg _ (retIf_withCounts x y s _)
  | unused code => exact execUnused_withCounts x y s code
  | _ => rfl

theorem retire_withCounts (before after : State) (i : Instr) :
    retire (withCounts x y before) (withCounts x y after) i = withCounts x y (retire before after i) := by
  show State.mk .. = State.mk ..
  congr 1 <;> exact Nat.add_right_comm _ _ _

theorem runInstr_withCounts : (withCounts x y s).runInstr = mapNext (withCounts x y) s.runInstr := by
  have hf : (withCounts x y s).fetch = s.fetch := rfl
  have ha : (withCounts x y s).advance s.fetch.2 = withCounts x y (s.advance s.fetch.2) := rfl
  unfold State.runInstr
  rw [hf, ha, exec_withCounts]
  cases exec s.fetch.1 (s.advance s.fetch.2) with
  | next t => exact congrArg _ (retire_withCounts x y s t _)
  | fault r => rfl
  | refused r => rfl

theorem acceptInterrupt_withCounts (n : BitVec 3) :
    (withCounts x y s).acceptInterrupt n = withCounts x y (s.acceptInterrupt n) := by
  show State.mk .. = State.mk ..
  congr 1 <;> exact Nat.add_right_comm _ _ _

theorem idleOrRun_withCounts : (withCounts x y s).idleOrRun = mapNext (withCounts x y) s.idleOrRun := by
  have hh : (withCounts x y s).halted = s.halted := rfl
  unfold State.idleOrRun
  rw [hh, runInstr_withCounts]
  split <;> rfl

theorem stepWith_withCounts (l : Sample) :
    (withCounts x y s).stepWith l = mapNext (withCounts x y) (s.stepWith l) := by
  have ha : (withCounts x y s).accepts = s.accepts := rfl
  unfold State.stepWith
  rw [ha, idleOrRun_withCounts]
  cases l.reset with
  | true => rfl
  | false =>
    cases l.int with
    | none => rfl
    | some n =>
      cases s.accepts with
      | true => exact congrArg Host.Outcome.next (acceptInterrupt_withCounts x y s n)
      | false => rfl

theorem step_withCounts : step (withCounts x y s) = mapNext (withCounts x y) (step s) := by
  rw [step_eq_stepWith, step_eq_stepWith]
  exact stepWith_withCounts x y (sampled s) (sampleOf s)

end Counts

/-! ### The obligations -/

/-- Settles O49: reset and an idle step write no memory, an acceptance pushes, `wf_acceptInterrupt`, and an instruction
keeps the form, `exec_wf`. -/
theorem stepKeepsTheMemoryForm : Obligations.StepKeepsTheMemoryForm := by
  intro s t hwf h
  have hwf' : (sampled s).mem.wf = true := hwf
  rcases step_next h with rfl | ⟨n, rfl⟩ | rfl | ⟨i, len, u, hu, rfl⟩
  · exact hwf
  · exact wf_acceptInterrupt hwf' n
  · exact hwf
  · have hwfu : u.mem.wf = true := exec_wf hu hwf
    exact hwfu

/-- Settles O51: for each of the four things a step can do; an instruction by `exec_sameRun`, `exec_not_ram`,
`exec_ioOut_grows` and `exec_inCount_grows`. -/
theorem stepKeepsTheEnvironment : Obligations.StepKeepsTheEnvironment := by
  intro s t hwf h
  have hsame : ∃ xs, s.ioOut = s.ioOut ++ xs ∧ xs.length ≤ 1 := ⟨[], (List.append_nil _).symm, Nat.zero_le 1⟩
  rcases step_next h with rfl | ⟨n, rfl⟩ | rfl | ⟨i, len, u, hu, rfl⟩
  · exact ⟨rfl, rfl, rfl, fun _ _ => rfl, hsame, .inl rfl⟩
  · exact ⟨rfl, rfl, rfl, fun a ha => get_acceptInterrupt_not_ram (s := sampled s) hwf n ha, hsame, .inl rfl⟩
  · exact ⟨rfl, rfl, rfl, fun _ _ => rfl, hsame, .inl rfl⟩
  · obtain ⟨hparams, hlines, hfixed, _⟩ := exec_sameRun hu
    have hcells : ∀ a, s.kindAt a ≠ .ram → u.mem.get a.toNat = s.mem.get a.toNat := fun _ => exec_not_ram hu hwf
    have hout := exec_ioOut_grows hu
    have hin := exec_inCount_grows hu
    exact ⟨hparams, hfixed, hlines, hcells, hout, hin⟩

/-- Settles O52: the counts commute with the step, `step_withCounts`. -/
theorem nothingReadsTheCounters : Obligations.NothingReadsTheCounters := by
  intro s x y
  have hstep := step_withCounts x y s
  exact ⟨fun t h => ⟨withCounts x y t, by rw [h] at hstep; exact hstep, rfl⟩,
    fun r h => by rw [h] at hstep; exact hstep⟩

/-- Settles O48: `step_of_decode`, with the updates before and after the instruction written out. -/
theorem stepRunsTheDecodedInstruction : Obligations.StepRunsTheDecodedInstruction := by
  intro s i rest h hh hd
  rw [step_of_decode h hh hd]
  rfl

/-- Settles O50: the reset state's own fields; its map has no region, so every address is RAM. -/
theorem resetStateHasTheSpecsValues : Obligations.ResetStateHasTheSpecsValues :=
  ⟨State.reset_wf, rfl, rfl, rfl, rfl, rfl, rfl, fun _ => rfl⟩

/-- Settles O54: neither step has an event, `step_of_noEvent`, and both use up their sample. -/
theorem maskedRequestHasNoEffect : Obligations.MaskedRequestHasNoEffect := by
  intro s n later h
  have hmasked (request : Option (BitVec 3)) : NoEvent { s with lines := ⟨false, request⟩ :: later } := ⟨rfl, .inr h⟩
  rw [step_of_noEvent (hmasked (some n)), step_of_noEvent (hmasked none)]
  rfl

/-- Settles O58: `step_of_reset`, whatever else the sample holds. -/
theorem resetWritesFourThings : Obligations.ResetWritesFourThings :=
  fun _ h => step_of_reset h

/-- Settles O55: the step has no event, since ei_pending = 1, so it runs `i`, whose body writes the three bits by
`exec_inte`, `exec_eiPending` and `exec_halted`. -/
theorem enableTakesEffectOneInstructionLater : Obligations.EnableTakesEffectOneInstructionLater := by
  intro s t i rest hei hh hr hd hs
  obtain ⟨u, hu, rfl⟩ := exec_of_step ⟨hr, .inr (.inr hei)⟩ hh hd hs
  have hinte : (retire (sampled s) u i).inte = if s.eiPending = true ∧ i ≠ .di then true else u.inte := rfl
  refine ⟨fun hi => ?di, fun hi => by rw [hinte, if_pos ⟨hei, hi⟩], fun hi => ?pending, ?halted⟩
  case di =>
    subst hi
    cases hu
    exact ⟨by rw [hinte, if_neg fun hn => hn.2 rfl], rfl⟩
  case pending =>
    show u.eiPending = true ↔ i = .ei
    by_cases he : i = .ei
    · subst he
      cases hu
      exact iff_of_true rfl rfl
    · rw [exec_eiPending hu hi he]
      exact iff_of_false Bool.false_ne_true he
  case halted =>
    show u.halted = true ↔ i = .hlt
    by_cases hi : i = .hlt
    · subst hi
      cases hu
      exact iff_of_true rfl rfl
    · rw [exec_halted hu hi]
      exact iff_of_false (by simp [sampled, hh]) hi

end Sys2Proof.Step
end

section
/-! PROOFS. The stack (20_memory.md R58) and the instructions on it (44_stack_io_control.md sections 2 and 3): pushes,
pops, calls, returns, and what comes back after them. -/

namespace Sys2Proof.Claims

open Sys2Proof.Machine

/-! ### The bytes of a 16-bit item -/

theorem high_eq_hi8 (w : Word) : high w = hi8 w := by
  apply BitVec.eq_of_toNat_eq
  rw [high, hi8, BitVec.extractLsb'_toNat, BitVec.toNat_ofNat, Nat.shiftRight_eq_div_pow]

theorem low_eq_lo8 (w : Word) : low w = lo8 w := by
  apply BitVec.eq_of_toNat_eq
  rw [low, lo8_toNat, BitVec.extractLsb'_toNat, Nat.shiftRight_zero]

theorem topHigh_append_topLow (s : State) : topHigh s ++ topLow s = s.top16 := (pairUp_eq_append _ _).symm

/-! ### The flag byte of the PSW (10_state.md R24) -/

theorem isFlagByte_toByte (f : Flags) : IsFlagByte f f.toByte := by
  obtain ⟨z, cy, s, p, ac⟩ := f
  unfold IsFlagByte
  revert z cy s p ac
  decide

theorem ofByte_toByte (f : Flags) : Flags.ofByte f.toByte = f := by
  obtain ⟨z, cy, s, p, ac⟩ := f
  revert z cy s p ac
  decide

theorem takesFlagByte_ofByte (v : Byte) : TakesFlagByte (Flags.ofByte v) v := ⟨rfl, rfl, rfl, rfl, rfl⟩

/-! ### Pushes -/

section Push

variable {s : State}

theorem pushed_push16 (hwf : s.mem.wf = true) (w : Word) : Pushed s (s.push16 w) (hi8 w) (lo8 w) :=
  ⟨(stored_writeByte_first hwf (word_sub_one_ne_sub_two s.sp) _ _).of_readByte fun _ => rfl,
    (stored_writeByte_second hwf (word_sub_one_ne_sub_two s.sp).symm _ _).of_readByte fun _ => rfl, rfl⟩

theorem frame_push16 (hwf : s.mem.wf = true) (w : Word) : Frame s (s.push16 w) [] [s.sp - 1, s.sp - 2] :=
  ((frame_writeByte hwf _ _).trans (frame_writeByte (State.wf_writeByte hwf _ _) _ _)).trans (frame_setSp _ _)

/-- What was pushed into RAM is at the top of the stack. -/
theorem top16_push16 (hwf : s.mem.wf = true) (h1 : s.kindAt (s.sp - 1) = .ram) (h2 : s.kindAt (s.sp - 2) = .ram)
    (w : Word) : (s.push16 w).top16 = w := by
  have hsp : s.sp - 2 + 1 = s.sp - 1 := by bv_omega
  rw [State.top16, State.readWord, State.push16_sp, hsp, State.readByte_push16_high hwf h1,
    State.readByte_push16_low hwf h2, pairUp_hi8_lo8]

/-- The item at the top depends on SP and on what reads at it and above it. -/
theorem top16_eq_of_readByte {t : State} (hsp : t.sp = s.sp) (hread : ∀ a k, t.readByte k a = s.readByte k a) :
    t.top16 = s.top16 := by
  simp only [State.top16, State.readWord, hsp, hread]

end Push

/-- An instruction whose next state is a call pushes the address after it. -/
theorem callsTo_of_exec_callTo {i : Instr} {s : State} {adr : Word} (hwf : s.mem.wf = true)
    (h : exec i s = .next (s.callTo adr)) : CallsTo i s adr := by
  refine ⟨_, h, ?_, rfl, rfl, (frame_push16 hwf s.pc).trans (frame_setPc _ adr)⟩
  rw [high_eq_hi8, low_eq_lo8]
  exact pushed_push16 hwf s.pc

/-- An instruction whose next state is a return pops PC. -/
theorem returns_of_exec_returnTo {i : Instr} {s : State} (h : exec i s = .next s.returnTo) : Returns i s :=
  ⟨_, h, (topHigh_append_topLow s).symm, rfl, rfl, (frame_setSp s _).trans (frame_setPc _ _)⟩

end Sys2Proof.Claims

namespace Sys2Proof.Stack

open Sys2Proof.Machine Sys2Proof.Claims Sys2Proof.Effects

/-! ### What the instructions do -/

theorem exec_push (p : Pair) (s : State) : exec (.push p) s = .next (s.push16 (s.pair p)) := rfl

/-- The PSW: A above the flag byte (10_state.md R24). -/
def pswOf (s : State) : Word := pairUp (s.reg .a) s.flags.toByte

theorem exec_pushPsw (s : State) : exec .pushPsw s = .next (s.push16 (pswOf s)) := rfl

theorem exec_pop (p : Pair) (s : State) : exec (.pop p) s = .next (s.drop16.setPair p s.top16) := rfl

theorem exec_popPsw (s : State) :
    exec .popPsw s = .next ((s.drop16.setReg .a (hi8 s.top16)).setFlags (Flags.ofByte (lo8 s.top16))) := rfl

theorem exec_call (adr : Word) (s : State) : exec (.call adr) s = .next (s.callTo adr) := rfl

theorem exec_rst (n : BitVec 3) (s : State) : exec (.rst n) s = .next (s.callTo (restartAddress n)) := rfl

theorem exec_ret (s : State) : exec .ret s = .next s.returnTo := rfl

theorem exec_callOn (test : Cond) (adr : Word) (s : State) :
    exec (callOn test adr) s = .next (s.callIf test adr) := by
  cases test <;> rfl

theorem exec_callOn_made {test : Cond} {s : State} (h : Holds test s.flags) (adr : Word) :
    exec (callOn test adr) s = .next (s.callTo adr) := by
  rw [exec_callOn, State.callIf_taken ((holds_iff test s.flags).mp h)]

theorem exec_callOn_not_made {test : Cond} {s : State} (h : ¬ Holds test s.flags) (adr : Word) :
    exec (callOn test adr) s = .next s := by
  rw [exec_callOn, State.callIf_not_taken ((not_holds_iff test s.flags).mp h)]

theorem exec_returnOn (test : Cond) (s : State) : exec (returnOn test) s = .next (s.retIf test) := by
  cases test <;> rfl

theorem exec_returnOn_made {test : Cond} {s : State} (h : Holds test s.flags) :
    exec (returnOn test) s = .next s.returnTo := by
  rw [exec_returnOn, State.retIf_taken ((holds_iff test s.flags).mp h)]

theorem exec_returnOn_not_made {test : Cond} {s : State} (h : ¬ Holds test s.flags) :
    exec (returnOn test) s = .next s := by
  rw [exec_returnOn, State.retIf_not_taken ((not_holds_iff test s.flags).mp h)]

/-! ### Their words and costs -/

theorem words1_push (p : Pair) : Words1 (.push p) (0xC5 + 16 * pairCode p) := by
  cases p <;> exact words1_of_form rfl rfl

theorem words1_pop (p : Pair) : Words1 (.pop p) (0xC1 + 16 * pairCode p) := by
  cases p <;> exact words1_of_form rfl rfl

theorem words3_callOn (test : Cond) : Words3 (callOn test) (0xC4 + 8 * condCode test) := by
  cases test <;> exact words3_of_form rfl fun _ => rfl

theorem words1_returnOn (test : Cond) : Words1 (returnOn test) (0xC0 + 8 * condCode test) := by
  cases test <;> exact words1_of_form rfl rfl

theorem words1_rst (n : BitVec 3) : Words1 (.rst n) (0xC7 + 8 * n.toNat) := by
  have hb : byte (0xC7 + 8 * n.toNat) = opByte 0b11 n 0b111 := byte_eq_opByte (by simp [Nat.add_right_comm])
  exact words1_of_form (by rw [hb, decodeForm_rst]) (by rw [hb]; rfl)

theorem cost_callOn (test : Cond) (adr : Word) (f : Flags) (rule : JccNotTaken) :
    cost (callOn test adr) f rule = callCost (f.holds test) := by
  cases test <;> rfl

theorem cost_returnOn (test : Cond) (f : Flags) (rule : JccNotTaken) :
    cost (returnOn test) f rule = retCost (f.holds test) := by
  cases test <;> rfl

/-! ### What comes back from the stack -/

section RoundTrip

variable {s : State}

theorem sub_two_add_two (w : Word) : w - 2 + 2 = w := BitVec.sub_add_cancel w 2

/-- RET finds what a call pushed. -/
theorem exec_ret_callTo (hwf : s.mem.wf = true) (h1 : s.kindAt (s.sp - 1) = .ram) (h2 : s.kindAt (s.sp - 2) = .ram)
    (adr : Word) : ∃ t, exec .ret (s.callTo adr) = .next t ∧ t.pc = s.pc ∧ t.sp = s.sp ∧ t.regs = s.regs ∧
      t.flags = s.flags :=
  ⟨_, exec_ret _, top16_push16 hwf h1 h2 s.pc, sub_two_add_two s.sp, rfl, rfl⟩

/-- An instruction that changes A and the flags at most, between PUSH PSW and POP PSW, leaves no trace in them. -/
theorem psw_round_trip (hwf : s.mem.wf = true) (h1 : s.kindAt (s.sp - 1) = .ram) (h2 : s.kindAt (s.sp - 2) = .ram)
    {i : Instr} (hrun : ∀ u, ∃ t, exec i u = .next t) (hsp : writesSp i = false)
    (hstore : ∀ u, storeAddresses i u = []) (hdest : destinations i ⊆ [.a]) :
    ∃ t, execAll [.pushPsw, i, .popPsw] s = some t ∧ t.regs = s.regs ∧ t.flags = s.flags ∧ t.sp = s.sp := by
  obtain ⟨v, hv⟩ := hrun (s.push16 (pswOf s))
  have hvsp : v.sp = s.sp - 2 := exec_sp hv hsp
  have htop : v.top16 = pswOf s := by
    rw [← top16_push16 hwf h1 h2 (pswOf s)]
    refine top16_eq_of_readByte hvsp fun a k => exec_sameMemory hv (State.wf_push16 hwf (pswOf s)) a ?_ k
    rw [hstore]
    exact List.not_mem_nil
  have hall : execAll [.pushPsw, i, .popPsw] s = execAll [.popPsw] v := by
    rw [execAll_cons (exec_pushPsw s) _, execAll_cons hv _]
  refine ⟨_, hall.trans (execAll_cons (exec_popPsw v) []), Regs.ext_get fun r => ?regs, ?flags, ?sp⟩
  case regs =>
    rw [htop, pswOf, hi8_pairUp]
    show (v.regs.set .a (s.reg .a)).get r = s.reg r
    rw [Regs.get_set]
    split
    · simp [*]
    · exact exec_reg hv fun hr => absurd (hdest hr) (by simpa)
  case flags =>
    rw [htop, pswOf, lo8_pairUp]
    exact ofByte_toByte s.flags
  case sp =>
    show v.sp + 2 = s.sp
    rw [hvsp, sub_two_add_two]

end RoundTrip

/-! ### The obligations -/

/-- Settles O26: both pushes are `push16`, of the pair and of A above the flag byte. -/
theorem pushesStoreTheirItem : Obligations.PushesStoreTheirItem := by
  refine ⟨fun p => ⟨words1_push p, fun _ _ => rfl, fun s hwf => ?pair⟩,
    ⟨words1_of_form rfl rfl, fun _ _ => rfl, fun s hwf => ?psw⟩⟩
  case pair =>
    refine ⟨_, exec_push p s, ?_, rfl, rfl, frame_push16 hwf _⟩
    rw [pairOf_eq_pair, high_eq_hi8, low_eq_lo8]
    exact pushed_push16 hwf _
  case psw =>
    refine ⟨_, s.flags.toByte, exec_pushPsw s, isFlagByte_toByte s.flags, ?_, rfl, rfl, frame_push16 hwf _⟩
    simpa [pswOf] using pushed_push16 hwf (pswOf s)

/-- Settles O27: both pops raise SP and write the item's bytes, `exec_pop` and `exec_popPsw`. -/
theorem popsLoadFromTheStack : Obligations.PopsLoadFromTheStack := by
  refine ⟨fun p => ⟨words1_pop p, fun _ _ => rfl, fun s => ?pair⟩,
    ⟨words1_of_form rfl rfl, fun _ _ => rfl, fun s => ?psw⟩⟩
  case pair =>
    refine ⟨_, exec_pop p s, ?_, rfl, rfl, rfl, (frame_setSp s _).trans (frame_setPair _ p _)⟩
    rw [pairOf_eq_pair, State.pair_setPair_same, topHigh_append_topLow]
  case psw =>
    have hhigh : hi8 s.top16 = topHigh s := hi8_pairUp _ _
    have hlow : lo8 s.top16 = topLow s := lo8_pairUp _ _
    refine ⟨_, exec_popPsw s, ?_, ?_, rfl, rfl,
      ((frame_setSp s _).trans (frame_setReg _ .a _)).trans (frame_setFlags _ _)⟩
    · simp [hhigh]
    · rw [State.setFlags_flags, hlow]
      exact takesFlagByte_ofByte _

/-- Settles O29: the item is read back where it was pushed, `top16_push16`, into any pair; between PUSH PSW and POP PSW
each of the six instructions changes A and flags at most, `psw_round_trip`. -/
theorem popReadsWhatPushStored : Obligations.PopReadsWhatPushStored := by
  intro s hwf h1 h2
  refine ⟨fun p q => ?pairs, fun i hi => ?psw⟩
  case pairs =>
    have hall : execAll [.push p, .pop q] s = execAll [.pop q] (s.push16 (s.pair p)) := execAll_cons (exec_push p s) _
    refine ⟨_, hall.trans (execAll_cons (exec_pop q _) []), ?item, sub_two_add_two s.sp, rfl,
      (frame_setPair (s.push16 (s.pair p)).drop16 q _).sameRegs⟩
    rw [pairOf_eq_pair, pairOf_eq_pair, State.pair_setPair_same, top16_push16 hwf h1 h2]
  case psw =>
    rcases hi with rfl | rfl | rfl | rfl | rfl | rfl <;>
      exact psw_round_trip hwf h1 h2 (fun _ => ⟨_, rfl⟩) rfl (fun _ => rfl) (by decide)

/-- Settles O30: a call that is made is `callTo`, one that is not made changes nothing. -/
theorem callsPushTheNextAddress : Obligations.CallsPushTheNextAddress := by
  refine ⟨⟨words3_of_form rfl fun _ => rfl, fun adr => ⟨fun _ _ => rfl, fun s hwf =>
      callsTo_of_exec_callTo hwf (exec_call adr s)⟩⟩,
    fun test => ⟨words3_callOn test, fun adr s => ⟨fun h => ⟨fun rule => ?made, fun hwf =>
      callsTo_of_exec_callTo hwf (exec_callOn_made h adr)⟩,
    fun h => ⟨fun rule => ?notMade, exec_callOn_not_made h adr⟩⟩⟩⟩
  case made =>
    rw [cost_callOn, (holds_iff test s.flags).mp h]
    rfl
  case notMade =>
    rw [cost_callOn, (not_holds_iff test s.flags).mp h]
    rfl

/-- Settles O31: a return that is made is `returnTo`, one that is not made changes nothing. -/
theorem returnsPopPc : Obligations.ReturnsPopPc := by
  refine ⟨⟨words1_of_form rfl rfl, fun _ _ => rfl, fun s => returns_of_exec_returnTo (exec_ret s)⟩,
    fun test => ⟨words1_returnOn test, fun s => ⟨fun h => ⟨fun rule => ?made,
      returns_of_exec_returnTo (exec_returnOn_made h)⟩,
    fun h => ⟨fun rule => ?notMade, exec_returnOn_not_made h⟩⟩⟩⟩
  case made =>
    rw [cost_returnOn, (holds_iff test s.flags).mp h]
    rfl
  case notMade =>
    rw [cost_returnOn, (not_holds_iff test s.flags).mp h]
    rfl

/-- Settles O32: RST n is `callTo` the address 8 * n. -/
theorem restartCallsEightTimesN : Obligations.RestartCallsEightTimesN :=
  fun n => ⟨words1_rst n, fun _ _ => rfl, fun s hwf => callsTo_of_exec_callTo hwf (exec_rst n s)⟩

/-- Settles O33: each of the three is `callTo`, and RET finds what it pushed, `exec_ret_callTo`. -/
theorem returnUndoesCall : Obligations.ReturnUndoesCall := by
  intro s hwf h1 h2 i hi
  have hcall : ∃ adr, exec i s = .next (s.callTo adr) := by
    rcases hi with ⟨adr, rfl⟩ | ⟨n, rfl⟩ | ⟨test, adr, hholds, rfl⟩
    · exact ⟨adr, exec_call adr s⟩
    · exact ⟨_, exec_rst n s⟩
    · exact ⟨adr, exec_callOn_made hholds adr⟩
  obtain ⟨adr, hi⟩ := hcall
  obtain ⟨t, ht, hrest⟩ := exec_ret_callTo hwf h1 h2 adr
  exact ⟨t, by rw [execAll_cons hi _, execAll_cons ht _, execAll_nil], hrest⟩

/-- Settles O37: with the policy fixed each code runs as what it stands for; the three calls push the PC past the
operand bytes. -/
theorem unusedCodesRunLikeThe8080 : Obligations.UnusedCodesRunLikeThe8080 := by
  intro s hp adr
  have hrun (code : UnusedCode) : exec (.unused code) s = .next (s.runLike8080 code) := by
    show execUnused code s = _
    rw [execUnused, hp]
  have hadr : adr = s.lateOperand := (pairUp_eq_append _ _).symm
  refine ⟨fun code hcode => ?nop, ?jmp, returns_of_exec_returnTo (hrun .xD9), fun code hcode => ?call⟩
  case nop =>
    simp only [List.mem_cons, List.not_mem_nil, or_false] at hcode
    rcases hcode with rfl | rfl | rfl | rfl | rfl | rfl | rfl <;> exact hrun _
  case jmp => exact ⟨_, hrun .xCB, hadr.symm, rfl, rfl, frame_setPc s _⟩
  case call =>
    rw [hadr]
    simp only [List.mem_cons, List.not_mem_nil, or_false] at hcode
    rcases hcode with rfl | rfl | rfl <;> exact ⟨_, hrun _, rfl⟩

end Sys2Proof.Stack
end

section
/-! PROOFS. The environment, the interrupt, and runs (44_stack_io_control.md sections 4 and 5, 60_exceptions.md): input
and output, control, refusals, acceptance and the return from a handler, the halt state, and how a run ends. -/

namespace Sys2Proof.Environment

open Sys2Proof.Machine Sys2Proof.Claims

/-! ### Input and output (44_stack_io_control.md R250, R251) -/

/-- The model's search for a fixed answer is the list's own. -/
theorem fixedAnswer_eq_find? (port : Byte) (n : Nat) (fixed : List IoAnswer) :
    fixedAnswer port n fixed = (fixed.find? fun x => decide (x.port = port ∧ x.n = n)).map IoAnswer.value := by
  induction fixed with
  | nil => rfl
  | cons x rest ih =>
    by_cases h : x.port = port ∧ x.n = n
    · simp [fixedAnswer, h]
    · simp [fixedAnswer, h, ih]

theorem exec_inPort (port : Byte) (s : State) : exec (.inPort port) s = .next (s.input port) := rfl

theorem exec_outPort (port : Byte) (s : State) : exec (.outPort port) s = .next (s.output port) := rfl

theorem reg_a_input (s : State) (port : Byte) : (s.input port).reg .a = s.ioRead port :=
  (State.reg_setReg s .a .a _).trans (if_pos rfl)

/-- Settles O34: IN writes A and in_count, OUT the trace; the answer is the first fixed one, `fixedAnswer_eq_find?`, or
the free value. -/
theorem inputAndOutputMeetTheEnvironment : Obligations.InputAndOutputMeetTheEnvironment := by
  refine ⟨⟨words2_of_form rfl fun _ => rfl, fun port => ⟨fun _ _ => rfl, fun s =>
      ⟨_, exec_inPort port s, rfl, fun v hv => ?fixed, fun hv => ?free, rfl, rfl, rfl, rfl,
        (frame_setReg s .a _).sameRegs, fun _ _ _ => rfl, ⟨rfl, rfl, rfl⟩, ⟨rfl, rfl, rfl, rfl, rfl, rfl⟩⟩⟩⟩,
    ⟨words2_of_form rfl fun _ => rfl, fun port => ⟨fun _ _ => rfl, fun s =>
      ⟨_, exec_outPort port s, rfl, rfl, rfl, rfl, rfl, fun _ _ => rfl, fun _ _ _ => rfl, ⟨rfl, rfl, rfl⟩,
        ⟨rfl, rfl, rfl, rfl, rfl, rfl⟩⟩⟩⟩⟩
  case fixed => rw [reg_a_input, State.ioRead, fixedAnswer_eq_find?, hv, Option.map_some, Option.getD_some]
  case free => rw [reg_a_input, State.ioRead, fixedAnswer_eq_find?, hv, Option.map_none, Option.getD_none]

/-! ### Control (44_stack_io_control.md R260 to R263) -/

/-- Settles O35: each of the four is the record update of its rule. -/
theorem controlInstructionsSetTheirBit : Obligations.ControlInstructionsSetTheirBit :=
  ⟨⟨words1_of_form rfl rfl, fun _ _ => rfl, fun _ => rfl⟩, ⟨words1_of_form rfl rfl, fun _ _ => rfl, fun _ => rfl⟩,
    ⟨words1_of_form rfl rfl, fun _ _ => rfl, fun _ => rfl⟩, ⟨words1_of_form rfl rfl, fun _ _ => rfl, fun _ => rfl⟩⟩

/-! ### Refusals (30_encoding.md R86) -/

theorem exec_unused_refuse {s : State} (h : s.params.unusedOpcodes = .refuse) (code : UnusedCode) :
    exec (.unused code) s = .refused (.unusedOpcode code.byte) := by
  show execUnused code s = _
  rw [execUnused, h]

/-- The one way an instruction is refused. -/
theorem exec_refused {i : Instr} {s : State} {r : Refusal} (h : exec i s = .refused r) : ∃ b, r = .unusedOpcode b := by
  cases i with
  | unused code =>
    replace h : execUnused code s = .refused r := h
    unfold execUnused at h
    split at h
    · exact ⟨_, (Host.Outcome.refused.inj h).symm⟩
    · cases h
  | _ => cases h

/-- The one way a step is refused. -/
theorem step_refused {s : State} {r : Refusal} (h : step s = .refused r) : ∃ b, r = .unusedOpcode b := by
  rw [Step.step_eq_stepWith] at h
  rcases (Step.sampled s).stepWith_cases (sampleOf s) with
    ⟨_, hs⟩ | ⟨_, _, n, _, hs⟩ | ⟨_, _, _, hs⟩ | ⟨_, _, _, hs⟩ <;> rw [hs] at h
  · cases h
  · cases h
  · cases h
  · unfold State.runInstr at h
    split at h
    case h_1 => cases h
    case h_2 => cases h
    case h_3 r' hr => exact Host.Outcome.refused.inj h ▸ exec_refused hr

theorem byte_unusedCodes : ∀ x ∈ unusedCodes, byte x.1 = x.2.byte := by decide

theorem words1_unused {b : Nat} {code : UnusedCode} (h : byte b = code.byte) : Words1 (.unused code) b := by
  refine words1_of_form ?_ (by rw [h]; rfl)
  rw [h]
  cases code <;> rfl

/-- Settles O36: the code decodes, `words1_unused`, and a step that fetches it answers what its body answers. -/
theorem unusedCodesAreRefused : Obligations.UnusedCodesAreRefused := by
  refine ⟨rfl, fun b code hmem => ?_⟩
  have hb : byte b = code.byte := byte_unusedCodes _ hmem
  refine ⟨words1_unused hb, fun s hp => ?_⟩
  rw [hb]
  refine ⟨exec_unused_refuse hp code, fun hno hh hfetch => ?_⟩
  obtain ⟨rest, hd⟩ : ∃ rest, decode (codeBytes s) = .ok (.unused code, rest) := by
    rw [codeBytes, hfetch, ← hb]
    exact ⟨_, (words1_unused hb).1 _⟩
  rw [Step.step_of_decode hno hh hd, exec_unused_refuse (s := (Step.sampled s).advance _) hp code,
    Step.mapNext]

end Sys2Proof.Environment

namespace Sys2Proof.Interrupt

open Sys2Proof.Machine Sys2Proof.Claims Sys2Proof.Step

/-! ### Acceptance and the return from a handler (60_exceptions.md R274, R278) -/

section Accepted

variable {s : State}

section Fields

variable (s : State) (n : BitVec 3)

@[simp] theorem acceptInterrupt_regs : (s.acceptInterrupt n).regs = s.regs := rfl
@[simp] theorem acceptInterrupt_flags : (s.acceptInterrupt n).flags = s.flags := rfl
@[simp] theorem acceptInterrupt_sp : (s.acceptInterrupt n).sp = s.sp - 2 := rfl
@[simp] theorem acceptInterrupt_pc : (s.acceptInterrupt n).pc = BitVec.ofNat 16 (8 * n.toNat) := rfl
@[simp] theorem acceptInterrupt_inte : (s.acceptInterrupt n).inte = false := rfl
@[simp] theorem acceptInterrupt_eiPending : (s.acceptInterrupt n).eiPending = s.eiPending := rfl
@[simp] theorem acceptInterrupt_halted : (s.acceptInterrupt n).halted = false := rfl
@[simp] theorem acceptInterrupt_inCount : (s.acceptInterrupt n).inCount = s.inCount := rfl
@[simp] theorem acceptInterrupt_ioOut : (s.acceptInterrupt n).ioOut = s.ioOut := rfl
@[simp] theorem acceptInterrupt_params : (s.acceptInterrupt n).params = s.params := rfl
@[simp] theorem acceptInterrupt_lines : (s.acceptInterrupt n).lines = s.lines := rfl
@[simp] theorem acceptInterrupt_ioFixed : (s.acceptInterrupt n).ioFixed = s.ioFixed := rfl
@[simp] theorem acceptInterrupt_instrCount : (s.acceptInterrupt n).instrCount = s.instrCount := rfl
@[simp] theorem acceptInterrupt_cycles : (s.acceptInterrupt n).cycles = s.cycles + 3 := rfl
@[simp] theorem acceptInterrupt_clocks : (s.acceptInterrupt n).clocks = s.clocks + 11 := rfl

/-- What an acceptance does to memory is the push of PC. -/
theorem readByte_acceptInterrupt (k : CycleKind) (a : Word) :
    (s.acceptInterrupt n).readByte k a = (s.push16 s.pc).readByte k a := rfl

end Fields

/-- An accepted interrupt pushes PC, as it would be pushed before the sample was used up. -/
theorem pushed_acceptInterrupt (hwf : s.mem.wf = true) (n : BitVec 3) :
    Pushed s ((sampled s).acceptInterrupt n) (high s.pc) (low s.pc) := by
  rw [high_eq_hi8, low_eq_lo8]
  obtain ⟨hhigh, hlow, _⟩ := pushed_push16 hwf s.pc
  exact ⟨hhigh.of_readByte fun k => readByte_acceptInterrupt (sampled s) n k _,
    hlow.of_readByte fun k => readByte_acceptInterrupt (sampled s) n k _, acceptInterrupt_sp _ n⟩

/-- After an acceptance PC is at the top of the stack. -/
theorem top16_acceptInterrupt (hwf : s.mem.wf = true) (h1 : s.kindAt (s.sp - 1) = .ram)
    (h2 : s.kindAt (s.sp - 2) = .ram) (n : BitVec 3) : ((sampled s).acceptInterrupt n).top16 = s.pc := by
  rw [← top16_push16 hwf h1 h2 s.pc]
  exact top16_eq_of_readByte rfl fun a k => readByte_acceptInterrupt (sampled s) n k a

/-- RET goes back to the item on the stack and changes nothing but PC and SP. -/
theorem exec_ret_fields (t : State) :
    ∃ u, exec .ret t = .next u ∧ u.pc = t.top16 ∧ u.sp = t.sp + 2 ∧ u.regs = t.regs ∧ u.flags = t.flags ∧
      u.mem = t.mem ∧ u.inte = t.inte ∧ u.halted = t.halted ∧ u.eiPending = t.eiPending :=
  ⟨_, Stack.exec_ret t, rfl, rfl, rfl, rfl, rfl, rfl, rfl, rfl⟩

/-- A step that finds RET goes back to the item on the stack and changes nothing but PC, SP and the two bits of EI. -/
theorem step_ret {v : State} {rest : List Byte} (hno : NoEvent v) (hh : v.halted = false)
    (hd : decode (codeBytes v) = .ok (.ret, rest)) :
    ∃ u, step v = .next u ∧ u.pc = v.top16 ∧ u.sp = v.sp + 2 ∧ u.regs = v.regs ∧ u.flags = v.flags ∧ u.mem = v.mem ∧
      u.halted = false ∧ u.eiPending = false ∧ (v.eiPending = false → u.inte = v.inte) ∧
      (v.eiPending = true → u.inte = true) := by
  obtain ⟨t, ht, hpc, hsp, hregs, hflags, hmem, hinte, hhalted, hei⟩ :=
    exec_ret_fields ((sampled v).advance (3 - rest.length))
  refine ⟨_, step_of_exec hno hh hd ht, hpc, hsp, hregs, hflags, hmem, hhalted.trans hh, hei, fun he => ?_,
    fun he => ?_⟩
  · exact (if_neg fun h => Bool.false_ne_true (he.symm.trans h.1)).trans hinte
  · exact if_pos ⟨he, nofun⟩

end Accepted

/-! ### The halt state (60_exceptions.md R282, R283) -/

/-- No reset comes, and no request that could be accepted. -/
def OutOfReach (s : State) : Prop :=
  (∀ l ∈ s.lines, l.reset = false) ∧ (s.inte = false ∨ s.eiPending = true ∨ ∀ l ∈ s.lines, l.int = none)

theorem OutOfReach.noEvent {s : State} (h : OutOfReach s) : NoEvent s := by
  obtain ⟨hreset, hint⟩ := h
  refine ⟨sampleOf_of_forall (P := fun l => l.reset = false) rfl hreset, ?_⟩
  rcases hint with hi | he | hn
  · exact .inr (.inl hi)
  · exact .inr (.inr he)
  · exact .inl (sampleOf_of_forall (P := fun l => l.int = none) rfl hn)

theorem OutOfReach.sampled {s : State} (h : OutOfReach s) : OutOfReach (sampled s) := by
  obtain ⟨hreset, hint⟩ := h
  exact ⟨fun l hl => hreset l (List.mem_of_mem_tail hl),
    hint.imp_right (Or.imp_right fun hn l hl => hn l (List.mem_of_mem_tail hl))⟩

theorem stepN_succ {s t : State} (h : step s = .next t) (k : Nat) : stepN (k + 1) s = stepN k t := by
  rw [stepN, h]

theorem stepN_of_halted {s : State} (hh : s.halted = true) (h : OutOfReach s) (k : Nat) :
    stepN k s = some { s with lines := s.lines.drop k } := by
  induction k generalizing s with
  | zero => rfl
  | succ k ih =>
    rw [stepN_succ (step_of_halted h.noEvent hh), ih (s := Step.sampled s) hh h.sampled]
    simp [Step.sampled]

/-! ### How a run ends (60_exceptions.md R284) -/

/-- A run ends as Halted when no interrupt will arrive, in the words of the claim. -/
theorem haltedForGood_iff_claim (s : State) :
    s.haltedForGood = true ↔
      s.halted = true ∧ (s.inte = false ∨ s.eiPending = true ∨ ∀ l ∈ s.lines, l.int = none) := by
  rw [State.haltedForGood_iff, accepts_eq_false_iff, or_assoc]

/-- The four ways a run of at most `k + 1` steps goes on from its first state. -/
theorem runEnd_succ_cases (k : Nat) (s : State) :
    (s.haltedForGood = true ∧ runEnd (k + 1) s = .halted s) ∨
    (s.haltedForGood = false ∧ ∃ t, step s = .next t ∧ runEnd (k + 1) s = runEnd k t) ∨
    (s.haltedForGood = false ∧ ∃ b, step s = .refused (.unusedOpcode b) ∧ runEnd (k + 1) s = .unusedOpcode b s) := by
  cases hg : s.haltedForGood with
  | true => exact .inl ⟨rfl, runEnd_of_haltedForGood hg _⟩
  | false =>
    cases hs : step s with
    | next t => exact .inr (.inl ⟨rfl, t, rfl, runEnd_succ_next hg hs k⟩)
    | fault r => exact nomatch r
    | refused r =>
      obtain ⟨b, rfl⟩ := Environment.step_refused hs
      exact .inr (.inr ⟨rfl, b, rfl, runEnd_succ_unusedOpcode hg hs k⟩)

theorem runEnd_zero_cases (s : State) :
    (s.haltedForGood = true ∧ runEnd 0 s = .halted s) ∨ (s.haltedForGood = false ∧ runEnd 0 s = .outOfSteps s) := by
  cases hg : s.haltedForGood with
  | true => exact .inl ⟨rfl, runEnd_of_haltedForGood hg 0⟩
  | false => exact .inr ⟨rfl, runEnd_zero hg⟩

theorem runEnd_ne_other (k : Nat) (s : State) : runEnd k s ≠ .other := by
  induction k generalizing s with
  | zero => rcases runEnd_zero_cases s with ⟨_, h⟩ | ⟨_, h⟩ <;> simp [h]
  | succ k ih =>
    rcases runEnd_succ_cases k s with ⟨_, h⟩ | ⟨_, t, _, h⟩ | ⟨_, b, _, h⟩
    · simp [h]
    · rw [h]
      exact ih t
    · simp [h]

/-- A run that did not run out of steps ends the same way with more. -/
theorem runEnd_add {k : Nat} {s : State} (h : ∀ u, runEnd k s ≠ .outOfSteps u) (m : Nat) :
    runEnd (k + m) s = runEnd k s := by
  induction k generalizing s with
  | zero =>
    rcases runEnd_zero_cases s with ⟨hg, h0⟩ | ⟨_, h0⟩
    · rw [h0, runEnd_of_haltedForGood hg]
    · exact absurd h0 (h s)
  | succ k ih =>
    rw [Nat.add_right_comm]
    rcases runEnd_succ_cases k s with ⟨hg, hk⟩ | ⟨hg, t, hs, hk⟩ | ⟨hg, b, hs, hk⟩
    · rw [hk, runEnd_of_haltedForGood hg]
    · rw [hk] at h ⊢
      rw [runEnd_succ_next hg hs, ih h]
    · rw [hk, runEnd_succ_unusedOpcode hg hs]

/-- A run that ends halted ends in a state its steps reach, halted for good. -/
theorem runEnd_halted {k : Nat} {s u : State} (h : runEnd k s = .halted u) :
    u.haltedForGood = true ∧ ∃ j, j ≤ k ∧ stepN j s = some u := by
  induction k generalizing s with
  | zero =>
    rcases runEnd_zero_cases s with ⟨hg, h0⟩ | ⟨_, h0⟩ <;> rw [h0] at h <;> cases h
    exact ⟨hg, 0, Nat.le_refl 0, rfl⟩
  | succ k ih =>
    rcases runEnd_succ_cases k s with ⟨hg, hk⟩ | ⟨_, t, hs, hk⟩ | ⟨_, b, _, hk⟩ <;> rw [hk] at h
    · cases h
      exact ⟨hg, 0, Nat.zero_le _, rfl⟩
    · obtain ⟨hu, j, hj, hreach⟩ := ih h
      exact ⟨hu, j + 1, Nat.succ_le_succ hj, (stepN_succ hs j).trans hreach⟩
    · cases h

/-- A run that ends at an unused code ends in a state its steps reach, whose step is refused. -/
theorem runEnd_unusedOpcode {k : Nat} {s u : State} {b : Byte} (h : runEnd k s = .unusedOpcode b u) :
    step u = .refused (.unusedOpcode b) ∧ ∃ j, j < k ∧ stepN j s = some u := by
  induction k generalizing s with
  | zero => rcases runEnd_zero_cases s with ⟨_, h0⟩ | ⟨_, h0⟩ <;> rw [h0] at h <;> cases h
  | succ k ih =>
    rcases runEnd_succ_cases k s with ⟨_, hk⟩ | ⟨_, t, hs, hk⟩ | ⟨_, b, hs, hk⟩ <;> rw [hk] at h
    · cases h
    · obtain ⟨hu, j, hj, hreach⟩ := ih h
      exact ⟨hu, j + 1, Nat.succ_lt_succ hj, (stepN_succ hs j).trans hreach⟩
    · cases h
      exact ⟨hs, 0, Nat.succ_pos k, rfl⟩

/-! ### The obligations -/

/-- Settles O53: the step accepts, `step_of_accepted`, and pushes PC, `pushed_acceptInterrupt`. -/
theorem interruptIsAccepted : Obligations.InterruptIsAccepted := by
  intro s n hr hi hinte hei hwf
  have ha : s.accepts = true := by simp [State.accepts, hinte, hei]
  refine ⟨_, step_of_accepted hr hi ha, acceptInterrupt_inte _ n, acceptInterrupt_halted _ n,
    (acceptInterrupt_eiPending _ n).trans hei, acceptInterrupt_pc _ n, pushed_acceptInterrupt hwf n,
    acceptInterrupt_flags _ n, fun r _ => congrArg (Regs.get · r) (acceptInterrupt_regs _ n), fun a hmem k => ?_,
    ⟨acceptInterrupt_inCount _ n, acceptInterrupt_ioOut _ n⟩, acceptInterrupt_params _ n, acceptInterrupt_lines _ n,
    acceptInterrupt_ioFixed _ n, acceptInterrupt_instrCount _ n, acceptInterrupt_cycles _ n,
    acceptInterrupt_clocks _ n⟩
  rw [readByte_acceptInterrupt]
  exact (frame_push16 hwf s.pc).sameMemory a hmem k

/-- Settles O56: PC is at the top of the stack after the acceptance, `top16_acceptInterrupt`, and so it is again when
the handler reaches its RET, which goes back to it, `exec_ret_fields` and `step_ret`. -/
theorem returnFromHandlerResumes : Obligations.ReturnFromHandlerResumes := by
  intro s t n hr hi hinte hei hwf h1 h2 hs
  have ha : s.accepts = true := by simp [State.accepts, hinte, hei]
  obtain rfl : (sampled s).acceptInterrupt n = t :=
    Host.Outcome.next.inj ((step_of_accepted hr hi ha).symm.trans hs)
  have htop := top16_acceptInterrupt hwf h1 h2 n
  have hback : ((sampled s).acceptInterrupt n).sp + 2 = s.sp := Stack.sub_two_add_two s.sp
  constructor
  · obtain ⟨u, hu, hpc, hsp, hregs, hflags, _, huinte, hhalted, _⟩ := exec_ret_fields ((sampled s).acceptInterrupt n)
    exact ⟨u, hu, hpc.trans htop, hsp.trans hback, hregs.trans (acceptInterrupt_regs _ n),
      hflags.trans (acceptInterrupt_flags _ n), huinte.trans (acceptInterrupt_inte _ n),
      hhalted.trans (acceptInterrupt_halted _ n)⟩
  · intro k v rest _ hsp hlow hhigh hno hh hd
    obtain ⟨u, hu, hpc, husp, hrest⟩ := step_ret hno hh hd
    have hvtop : v.top16 = ((sampled s).acceptInterrupt n).top16 := by
      rw [← topHigh_append_topLow, hhigh, hlow, topHigh_append_topLow]
    exact ⟨u, hu, hpc.trans (hvtop.trans htop), by rw [husp, hsp, hback], hrest⟩

/-- Settles O57: such a processor idles at each step, `stepN_of_halted`. -/
theorem haltWithoutInterruptIsForGood : Obligations.HaltWithoutInterruptIsForGood :=
  fun _ k hh hreset hint => stepN_of_halted hh ⟨hreset, hint⟩ k

/-- Settles O59: each end is reached and stays, `runEnd_halted`, `runEnd_unusedOpcode` and `runEnd_add`. -/
theorem runEndIsFinal : Obligations.RunEndIsFinal := by
  intro k m s
  refine ⟨fun hh hint => runEnd_of_haltedForGood ((haltedForGood_iff_claim s).mpr ⟨hh, hint⟩) k, fun u h => ?halted,
    fun b u h => ?unused, runEnd_ne_other k s⟩
  case halted =>
    obtain ⟨hgood, hreach⟩ := runEnd_halted h
    obtain ⟨hh, hint⟩ := (haltedForGood_iff_claim u).mp hgood
    exact ⟨(runEnd_add (by simp [h]) m).trans h, hh, hint, hreach⟩
  case unused =>
    obtain ⟨hstep, hreach⟩ := runEnd_unusedOpcode h
    exact ⟨(runEnd_add (by simp [h]) m).trans h, hstep, hreach⟩

end Sys2Proof.Interrupt
end

section
/-! PROOFS. Arithmetic (41_arithmetic.md): subtraction, the steps by 1, and the cycles of the timing tables. -/

namespace Sys2Proof.Arithmetic

open Sys2Proof.Machine Sys2Proof.Claims

/-! ### Subtraction (41_arithmetic.md R132) -/

theorem sub8_toNat (a x : Byte) (bin : Bool) :
    ((sub8 a x bin).val.toNat : Int) = ((a.toNat : Int) - x.toNat - bin.toNat) % 256 := by
  have hval : (sub8 a x bin).val.toNat = (((a.toNat : Int) - x.toNat - bin.toNat) % 256).toNat :=
    BitVec.toNat_ofInt _
  omega

theorem sub8_cy (a x : Byte) (bin : Bool) : (sub8 a x bin).flags.cy = true ↔ a.toNat < x.toNat + bin.toNat := by
  have hcy : (sub8 a x bin).flags.cy = decide ((a.toNat : Int) - x.toNat - bin.toNat < 0) := rfl
  rw [hcy, decide_eq_true_iff]
  omega

theorem isDifference_sub8 (a x : Byte) (bin : Bool) :
    IsDifference a x bin (sub8 a x bin).val (sub8 a x bin).flags :=
  ⟨sub8_toNat a x bin, resultFlags_ofResult _ _ _, sub8_cy a x bin, decide_eq_true_iff⟩

theorem toNat_not (b : Bool) : (!b).toNat = 1 - b.toNat := by
  cases b <;> rfl

/-- The difference is the sum with the complement (41_arithmetic.md R132). -/
theorem sub8_val_eq_add8 {x y : Byte} (h : y.toNat = 255 - x.toNat) (a : Byte) (bin : Bool) :
    (sub8 a x bin).val = (add8 a y (!bin)).val := by
  apply BitVec.eq_of_toNat_eq
  have hsub := sub8_toNat a x bin
  have hadd : (add8 a y (!bin)).val.toNat = (a.toNat + y.toNat + (!bin).toNat) % 256 := BitVec.toNat_ofNat _ _
  have hbin := Bool.toNat_le bin
  have hx := x.isLt
  rw [toNat_not] at hadd
  omega

theorem auxCarrySub_eq_auxCarryAdd {x y : Byte} (h : y.toNat = 255 - x.toNat) (a : Byte) (bin : Bool) :
    auxCarrySub a x bin = auxCarryAdd a y (!bin) := by
  have hx := x.isLt
  have hy : y.toNat % 16 = 15 - x.toNat % 16 := by omega
  rw [auxCarrySub, auxCarryAdd, toNat_not, hy]

/-- The subtraction borrows where the sum with the complement does not carry. -/
theorem sub8_cy_eq_not_add8 {x y : Byte} (h : y.toNat = 255 - x.toNat) (a : Byte) (bin : Bool) :
    (sub8 a x bin).flags.cy = !(add8 a y (!bin)).flags.cy := by
  have hsub := sub8_cy a x bin
  have hadd : (add8 a y (!bin)).flags.cy = true ↔ 255 < a.toNat + y.toNat + (!bin).toNat := decide_eq_true_iff
  have hbin := Bool.toNat_le bin
  have hx := x.isLt
  rw [toNat_not] at hadd
  rw [Bool.eq_iff_iff, Bool.not_eq_true', ← Bool.not_eq_true, hsub, hadd]
  omega

/-! ### One more and one less (41_arithmetic.md R146, R148) -/

theorem inc8_toNat (v : Byte) (old : Flags) : (inc8 v old).val.toNat = (v.toNat + 1) % 256 := BitVec.toNat_ofNat _ _

theorem inc8_ac (v : Byte) (old : Flags) : (inc8 v old).flags.ac = true ↔ v.toNat % 16 = 15 := by
  have hac : (inc8 v old).flags.ac = decide (15 < v.toNat % 16 + 1) := rfl
  rw [hac, decide_eq_true_iff]
  omega

theorem resultFlags_inc8 (v : Byte) (old : Flags) : ResultFlags (inc8 v old).flags (inc8 v old).val :=
  resultFlags_ofResult (inc8 v old).val (inc8 v old).flags.ac old.cy

theorem dec8_toNat (v : Byte) (old : Flags) : (dec8 v old).val.toNat = (v.toNat + 255) % 256 := by
  have hval : ((dec8 v old).val.toNat : Int) = ((v.toNat : Int) - (1 : Byte).toNat - false.toNat) % 256 :=
    sub8_toNat v 1 false
  have hone : (1 : Byte).toNat = 1 := rfl
  have hzero : false.toNat = 0 := rfl
  omega

theorem dec8_ac (v : Byte) (old : Flags) : (dec8 v old).flags.ac = true ↔ v.toNat % 16 ≠ 0 := by
  have hac : (dec8 v old).flags.ac = decide (15 < v.toNat % 16 + 14 + 1) := rfl
  rw [hac, decide_eq_true_iff]
  omega

theorem resultFlags_dec8 (v : Byte) (old : Flags) : ResultFlags (dec8 v old).flags (dec8 v old).val :=
  resultFlags_ofResult (dec8 v old).val (dec8 v old).flags.ac old.cy

/-! ### What the instructions do -/

theorem exec_subR (r : Reg8) (s : State) :
    exec (.subR r) s = .next (s.setAcc (sub8 (s.reg .a) (s.reg r) false)) := rfl

theorem exec_subM (s : State) : exec .subM s = .next (s.setAcc (sub8 (s.reg .a) s.readM false)) := rfl

theorem exec_sui (d8 : Byte) (s : State) : exec (.sui d8) s = .next (s.setAcc (sub8 (s.reg .a) d8 false)) := rfl

theorem exec_sbbR (r : Reg8) (s : State) :
    exec (.sbbR r) s = .next (s.setAcc (sub8 (s.reg .a) (s.reg r) s.flags.cy)) := rfl

theorem exec_sbbM (s : State) : exec .sbbM s = .next (s.setAcc (sub8 (s.reg .a) s.readM s.flags.cy)) := rfl

theorem exec_sbi (d8 : Byte) (s : State) :
    exec (.sbi d8) s = .next (s.setAcc (sub8 (s.reg .a) d8 s.flags.cy)) := rfl

theorem exec_inrR (r : Reg8) (s : State) :
    exec (.inrR r) s =
      .next ((s.setReg r (inc8 (s.reg r) s.flags).val).setFlags (inc8 (s.reg r) s.flags).flags) := rfl

theorem exec_inrM (s : State) :
    exec .inrM s =
      .next ((s.writeByte (s.pair .hl) (inc8 s.readM s.flags).val).setFlags (inc8 s.readM s.flags).flags) := rfl

theorem exec_dcrR (r : Reg8) (s : State) :
    exec (.dcrR r) s =
      .next ((s.setReg r (dec8 (s.reg r) s.flags).val).setFlags (dec8 (s.reg r) s.flags).flags) := rfl

theorem exec_dcrM (s : State) :
    exec .dcrM s =
      .next ((s.writeByte (s.pair .hl) (dec8 s.readM s.flags).val).setFlags (dec8 s.readM s.flags).flags) := rfl

theorem exec_inx (p : Rp) (s : State) : exec (.inx p) s = .next (s.setRp p (s.rp p + 1)) := rfl

theorem exec_dcx (p : Rp) (s : State) : exec (.dcx p) s = .next (s.setRp p (s.rp p - 1)) := rfl

/-- An instruction whose next state takes a result of `sub8` gives A and the flags the difference. -/
theorem accumulatorGets_isDifference {i : Instr} {s : State} {a x : Byte} {bin : Bool}
    (h : exec i s = .next (s.setAcc (sub8 a x bin))) : AccumulatorGets i s (IsDifference a x bin) :=
  accumulatorGets_of_exec_setAcc h (isDifference_sub8 a x bin)

/-- A register written together with the flags holds what was written. -/
theorem reg_setReg_setFlags (s : State) (r : Reg8) (v : Byte) (f : Flags) : ((s.setReg r v).setFlags f).reg r = v := by
  simp

/-- A byte of memory and the flags, written together. -/
theorem frame_writeByte_setFlags {s : State} (hwf : s.mem.wf = true) (a : Word) (v : Byte) (f : Flags) :
    Frame s ((s.writeByte a v).setFlags f) [] [a] :=
  (frame_writeByte hwf a v).trans (frame_setFlags _ f)

/-- INX and DCX write their operand alone. -/
theorem frame_setRp (s : State) (p : Rp) (w : Word) : Frame s (s.setRp p w) (destinations (.inx p)) [] := by
  cases p with
  | bc => exact frame_setPair s .bc w
  | de => exact frame_setPair s .de w
  | hl => exact frame_setPair s .hl w
  | sp => exact frame_setSp s w

theorem setRp_sp_of_ne {p : Rp} (h : p ≠ .sp) (s : State) (w : Word) : (s.setRp p w).sp = s.sp := by
  cases p with
  | bc | de | hl => rfl
  | sp => exact absurd rfl h

theorem destinations_dcx (p : Rp) : destinations (.dcx p) = destinations (.inx p) := by
  cases p <;> rfl

/-! ### Their words -/

theorem words1_subR (r : Reg8) : Words1 (.subR r) (0x90 + regCode r) :=
  words1_quadrant2 (aaa := 0b010) (fun _ => rfl) (fun _ => rfl) rfl r

theorem words1_sbbR (r : Reg8) : Words1 (.sbbR r) (0x98 + regCode r) :=
  words1_quadrant2 (aaa := 0b011) (fun _ => rfl) (fun _ => rfl) rfl r

theorem words1_inrR (r : Reg8) : Words1 (.inrR r) (0x04 + 8 * regCode r) := by
  cases r <;> exact words1_of_form rfl rfl

theorem words1_dcrR (r : Reg8) : Words1 (.dcrR r) (0x05 + 8 * regCode r) := by
  cases r <;> exact words1_of_form rfl rfl

theorem words1_inx (p : Rp) : Words1 (.inx p) (0x03 + 16 * rpCode p) := by
  cases p <;> exact words1_of_form rfl rfl

theorem words1_dcx (p : Rp) : Words1 (.dcx p) (0x0B + 16 * rpCode p) := by
  cases p <;> exact words1_of_form rfl rfl

/-! ### The obligations -/

/-- Settles O7: each of the six forms takes `sub8` of A, its operand and its borrow, `accumulatorGets_isDifference`. -/
theorem subtractionsGiveDifferenceAndFlags : Obligations.SubtractionsGiveDifferenceAndFlags := by
  refine ⟨fun r => ⟨words1_subR r, fun _ _ => rfl, fun s => accumulatorGets_isDifference (exec_subR r s)⟩,
    ⟨words1_of_form rfl rfl, fun _ _ => rfl, fun s => ?subM⟩,
    ⟨words2_of_form rfl fun _ => rfl, fun d8 => ⟨fun _ _ => rfl, fun s =>
      accumulatorGets_isDifference (exec_sui d8 s)⟩⟩,
    fun r => ⟨words1_sbbR r, fun _ _ => rfl, fun s => accumulatorGets_isDifference (exec_sbbR r s)⟩,
    ⟨words1_of_form rfl rfl, fun _ _ => rfl, fun s => ?sbbM⟩,
    ⟨words2_of_form rfl fun _ => rfl, fun d8 => ⟨fun _ _ => rfl, fun s =>
      accumulatorGets_isDifference (exec_sbi d8 s)⟩⟩⟩
  case subM =>
    rw [cellM_eq_readM]
    exact accumulatorGets_isDifference (exec_subM s)
  case sbbM =>
    rw [cellM_eq_readM]
    exact accumulatorGets_isDifference (exec_sbbM s)

/-- Settles O8: result and AC agree, so Z, S and P do, and CY is inverted. -/
theorem subtractionIsAdditionOfComplement : Obligations.SubtractionIsAdditionOfComplement := by
  intro a x y bin h
  have hval := sub8_val_eq_add8 h a bin
  refine ⟨hval, ?_⟩
  have hflags : (sub8 a x bin).flags =
      Flags.ofResult (sub8 a x bin).val (auxCarrySub a x bin) (sub8 a x bin).flags.cy := rfl
  rw [hflags, hval, auxCarrySub_eq_auxCarryAdd h, sub8_cy_eq_not_add8 h]
  rfl

/-- Settles O9: INR writes `inc8` of its operand back to the register, or to the cell M. -/
theorem incrementsKeepCarry : Obligations.IncrementsKeepCarry := by
  refine ⟨fun r => ⟨words1_inrR r, fun _ _ => rfl, fun s => ?register⟩,
    ⟨words1_of_form rfl rfl, fun _ _ => rfl, fun s hwf => ?cell⟩⟩
  case register =>
    refine ⟨_, exec_inrR r s, ?_, ?_, inc8_ac _ _, rfl, rfl, rfl,
      (frame_setReg s r _).trans (frame_setFlags _ _)⟩ <;> rw [reg_setReg_setFlags]
    · exact inc8_toNat _ _
    · exact resultFlags_inc8 _ _
  case cell =>
    rw [pairOf_eq_pair, cellM_eq_readM]
    exact ⟨_, _, exec_inrM s, inc8_toNat _ _, (stored_writeByte hwf _ _).of_readByte fun _ => rfl,
      resultFlags_inc8 _ _, inc8_ac _ _, rfl, rfl, rfl, frame_writeByte_setFlags hwf _ _ _⟩

/-- Settles O10: DCR writes `dec8` of its operand back to the register, or to the cell M. -/
theorem decrementsKeepCarry : Obligations.DecrementsKeepCarry := by
  refine ⟨fun r => ⟨words1_dcrR r, fun _ _ => rfl, fun s => ?register⟩,
    ⟨words1_of_form rfl rfl, fun _ _ => rfl, fun s hwf => ?cell⟩⟩
  case register =>
    refine ⟨_, exec_dcrR r s, ?_, ?_, dec8_ac _ _, rfl, rfl, rfl,
      (frame_setReg s r _).trans (frame_setFlags _ _)⟩ <;> rw [reg_setReg_setFlags]
    · exact dec8_toNat _ _
    · exact resultFlags_dec8 _ _
  case cell =>
    rw [pairOf_eq_pair, cellM_eq_readM]
    exact ⟨_, _, exec_dcrM s, dec8_toNat _ _, (stored_writeByte hwf _ _).of_readByte fun _ => rfl,
      resultFlags_dec8 _ _, dec8_ac _ _, rfl, rfl, rfl, frame_writeByte_setFlags hwf _ _ _⟩

/-- Settles O11: both write their 16-bit operand, `frame_setRp`, one up or one down modulo 65536. -/
theorem pairStepsTouchNoFlag : Obligations.PairStepsTouchNoFlag := by
  refine ⟨fun p => ⟨words1_inx p, fun _ _ => rfl, fun s => ⟨_, exec_inx p s, ?up, fun hp => setRp_sp_of_ne hp s _,
      State.setRp_flags s p _, State.setRp_pc s p _, frame_setRp s p _⟩⟩,
    fun p => ⟨words1_dcx p, fun _ _ => rfl, fun s => ⟨_, exec_dcx p s, ?down, fun hp => setRp_sp_of_ne hp s _,
      State.setRp_flags s p _, State.setRp_pc s p _, destinations_dcx p ▸ frame_setRp s p _⟩⟩⟩
  case up =>
    rw [rpOf_eq_rp, rpOf_eq_rp, State.rp_setRp_same]
    exact BitVec.toNat_add _ _
  case down =>
    rw [rpOf_eq_rp, rpOf_eq_rp, State.rp_setRp_same]
    bv_omega

end Sys2Proof.Arithmetic

namespace Sys2Proof.Timing

open Sys2Proof.Machine Sys2Proof.Claims

/-! ### Cycles and accesses (70_reset_and_hazards.md R310, R311) -/

/-- A conditional call takes its three fetches and, when it is made, the two cycles of the push. -/
theorem cycles_callCost (s : State) (made : Bool) :
    (callCost made).cycles = 3 + (if made then pushCycles s else []).length := by
  cases made <;> rfl

/-- A conditional return takes its fetch and, when it is made, the two cycles of the pop. -/
theorem cycles_retCost (s : State) (made : Bool) :
    (retCost made).cycles = 1 + (if made then popCycles s else []).length := by
  cases made <;> rfl

theorem cycles_jumpCost (taken : Bool) : (jumpCost taken .clocks10).cycles = 3 := by
  cases taken <;> rfl

/-- Settles O47: row by row of the tables; the rows with a condition by `cycles_callCost`, `cycles_retCost` and
`cycles_jumpCost`. -/
theorem cyclesCountTheAccesses : Obligations.CyclesCountTheAccesses := by
  intro i s hdad hunused
  cases i with
  | dad p => exact absurd rfl (hdad p)
  | unused code => exact absurd rfl (hunused code)
  | cnz _ | cz _ | cnc _ | cc _ | cpo _ | cpe _ | cp _ | cm _ => exact cycles_callCost s _
  | rnz | rz | rnc | rc | rpo | rpe | rp | rm => exact cycles_retCost s _
  | jnz _ | jz _ | jnc _ | jc _ | jpo _ | jpe _ | jp _ | jm _ => exact cycles_jumpCost _
  | _ => rfl

end Sys2Proof.Timing
end

section
/-! PROOFS. Decimal adjust (41_arithmetic.md R160, R161): the two corrections in their one-shot form, and the decimal
sum they give. -/

namespace Sys2Proof.Decimal

open Sys2Proof.Machine Sys2Proof.Claims

/-! ### The one-shot form of DAA (41_arithmetic.md R160) -/

/-- DAA adds 06h. -/
def addsSix (a : Byte) (f : Flags) : Bool := decide (9 < a.toNat % 16) || f.ac

/-- DAA adds 60h. -/
def addsSixty (a : Byte) (f : Flags) : Bool :=
  decide (9 < a.toNat / 16) || f.cy || (decide (9 ≤ a.toNat / 16) && decide (9 < a.toNat % 16))

theorem addsSix_iff (a : Byte) (f : Flags) : addsSix a f = true ↔ 9 < a.toNat % 16 ∨ f.ac = true := by
  simp [addsSix]

theorem addsSixty_iff (a : Byte) (f : Flags) :
    addsSixty a f = true ↔ 9 < a.toNat / 16 ∨ f.cy = true ∨ (9 ≤ a.toNat / 16 ∧ 9 < a.toNat % 16) := by
  simp [addsSixty, or_assoc]

theorem daaLow_of_addsSix {a : Byte} {f : Flags} (h : addsSix a f = true) :
    daaLow a f.ac = (BitVec.ofNat 8 (a.toNat + 6), decide (15 < a.toNat % 16 + 6), decide (255 < a.toNat + 6)) := by
  rw [daaLow, if_pos ((addsSix_iff a f).mp h)]

theorem daaLow_of_not_addsSix {a : Byte} {f : Flags} (h : addsSix a f = false) : daaLow a f.ac = (a, false, false) := by
  rw [daaLow, if_neg]
  rw [← addsSix_iff, h]
  exact Bool.false_ne_true

theorem daaLow_toNat (a : Byte) (f : Flags) :
    (daaLow a f.ac).1.toNat = (a.toNat + if addsSix a f then 6 else 0) % 256 := by
  cases h : addsSix a f with
  | true =>
    rw [daaLow_of_addsSix h]
    exact BitVec.toNat_ofNat _ _
  | false =>
    rw [daaLow_of_not_addsSix h]
    exact (Nat.mod_eq_of_lt a.isLt).symm

theorem daaLow_ac (a : Byte) (f : Flags) :
    (daaLow a f.ac).2.1 = (addsSix a f && decide (15 < a.toNat % 16 + 6)) := by
  cases h : addsSix a f with
  | true => rw [daaLow_of_addsSix h, Bool.true_and]
  | false => rw [daaLow_of_not_addsSix h, Bool.false_and]

/-- The second step's test, on the byte after the first, is the one-shot test on A itself: 06h carries into the high
digit only from a low digit above 9. -/
theorem daaHigh_test_iff (a : Byte) (f : Flags) :
    (9 < (daaLow a f.ac).1.toNat / 16 ∨ f.cy = true ∨ (daaLow a f.ac).2.2 = true) ↔ addsSixty a f = true := by
  have ha := a.isLt
  rw [addsSixty_iff, daaLow_toNat]
  cases hcy : f.cy with
  | true => simp
  | false =>
    cases h : addsSix a f with
    | true =>
      rw [daaLow_of_addsSix h]
      simp only [Bool.false_eq_true, if_true, false_or, decide_eq_true_iff]
      omega
    | false =>
      have hlow : ¬ 9 < a.toNat % 16 := fun hl => by simp [addsSix, hl] at h
      rw [daaLow_of_not_addsSix h]
      simp only [Bool.false_eq_true, if_false, false_or, or_false]
      omega

theorem daaHigh_of_addsSixty {a : Byte} {f : Flags} (h : addsSixty a f = true) :
    daaHigh (daaLow a f.ac).1 f.cy (daaLow a f.ac).2.2 = (BitVec.ofNat 8 ((daaLow a f.ac).1.toNat + 96), true) := by
  rw [daaHigh, if_pos ((daaHigh_test_iff a f).mpr h)]

theorem daaHigh_of_not_addsSixty {a : Byte} {f : Flags} (h : addsSixty a f = false) :
    daaHigh (daaLow a f.ac).1 f.cy (daaLow a f.ac).2.2 = ((daaLow a f.ac).1, false) := by
  have hcy : f.cy = false := by
    cases hc : f.cy with
    | false => rfl
    | true => simp [addsSixty, hc] at h
  rw [daaHigh, if_neg, hcy]
  rw [daaHigh_test_iff, h]
  exact Bool.false_ne_true

theorem daa8_toNat (a : Byte) (f : Flags) :
    (daa8 a f).val.toNat =
      (a.toNat + (if addsSix a f then 6 else 0) + (if addsSixty a f then 96 else 0)) % 256 := by
  have hval : (daa8 a f).val = (daaHigh (daaLow a f.ac).1 f.cy (daaLow a f.ac).2.2).1 := rfl
  have hlow := daaLow_toNat a f
  rw [hval]
  cases h : addsSixty a f with
  | true =>
    rw [daaHigh_of_addsSixty h, BitVec.toNat_ofNat, hlow]
    exact Nat.mod_add_mod _ _ _
  | false =>
    rw [daaHigh_of_not_addsSixty h, hlow]
    rfl

theorem daa8_cy (a : Byte) (f : Flags) : (daa8 a f).flags.cy = addsSixty a f := by
  have hcy : (daa8 a f).flags.cy = (daaHigh (daaLow a f.ac).1 f.cy (daaLow a f.ac).2.2).2 := rfl
  rw [hcy]
  cases h : addsSixty a f with
  | true => rw [daaHigh_of_addsSixty h]
  | false => rw [daaHigh_of_not_addsSixty h]

theorem exec_daa (s : State) : exec .daa s = .next (s.setAcc (daa8 (s.reg .a) s.flags)) := rfl

/-- Settles O13: `daa8_toNat`, `daa8_cy` and `daaLow_ac`. -/
theorem daaAddsTheCorrection : Obligations.DaaAddsTheCorrection :=
  ⟨words1_of_form rfl rfl, fun _ _ => rfl, fun s =>
    accumulatorGets_of_exec_setAcc (exec_daa s)
      ⟨daa8_toNat _ _, resultFlags_ofResult _ _ _, daa8_cy _ _, daaLow_ac _ _⟩⟩

/-! ### Decimal sums (41_arithmetic.md R161) -/

/-- A byte sum of decimal operands, adjusted, is their decimal sum. -/
theorem daa8_add8_decimal {a x : Byte} (ha : IsDecimal a) (hx : IsDecimal x) {cin : Bool} {sum : AluResult}
    (hs : sum = add8 a x cin) :
    IsDecimal (daa8 sum.val sum.flags).val ∧
      decimalOf (daa8 sum.val sum.flags).val + 100 * (daa8 sum.val sum.flags).flags.cy.toNat =
        decimalOf a + decimalOf x + cin.toNat := by
  obtain ⟨halow, hahigh⟩ := ha
  obtain ⟨hxlow, hxhigh⟩ := hx
  obtain ⟨hsum, _, hcy, hac⟩ : IsSum a x cin sum.val sum.flags := hs ▸ Arithmetic.isSum_add8 a x cin
  have hcin := Bool.toNat_le cin
  have hsix := addsSix_iff sum.val sum.flags
  have hsixty := addsSixty_iff sum.val sum.flags
  rw [hac] at hsix
  rw [hcy] at hsixty
  unfold IsDecimal decimalOf
  rw [daa8_toNat, daa8_cy]
  cases h6 : addsSix sum.val sum.flags <;> cases h60 : addsSixty sum.val sum.flags <;>
    simp only [h6, h60, Bool.false_eq_true, false_iff, true_iff, if_true, if_false, Bool.toNat_true, Bool.toNat_false]
      at hsix hsixty ⊢ <;>
    omega

/-- DAA after an accumulator operation adjusts its result. -/
theorem execAll_daa {s : State} {sum : AluResult} {i : Instr} (h : exec i s = .next (s.setAcc sum)) :
    execAll [i, .daa] s = some ((s.setAcc sum).setAcc (daa8 sum.val sum.flags)) := by
  rw [execAll_cons h _, execAll_cons (exec_daa _) _, execAll_nil, State.reg_setAcc, if_pos rfl, State.setAcc_flags]

theorem reg_a_setAcc (s : State) (r : AluResult) : (s.setAcc r).reg .a = r.val := by
  rw [State.reg_setAcc, if_pos rfl]

/-- Settles O14: ADI and ACI take `add8`, and DAA makes of it the decimal sum, `daa8_add8_decimal`. -/
theorem daaCorrectsDecimalSums : Obligations.DaaCorrectsDecimalSums := by
  intro s d8 ha hd
  refine ⟨⟨_, execAll_daa (Arithmetic.exec_adi d8 s), ?_⟩, ⟨_, execAll_daa (Arithmetic.exec_aci d8 s), ?_⟩⟩ <;>
    rw [reg_a_setAcc]
  · exact daa8_add8_decimal ha hd rfl
  · exact daa8_add8_decimal ha hd rfl

end Sys2Proof.Decimal

namespace Sys2Proof.Chains

open Sys2Proof.Machine Sys2Proof.Claims

/-! ### Numbers byte by byte (41_arithmetic.md R162) -/

section Exact

/- `sign` is 1 for addition and -1 for subtraction: CY is what the result lacks, or owes, in units of the base. -/
variable (sign : ℤ) (base : Nat) (digit : Byte → Nat) (valid : Byte → Prop)

/-- The program gives in A the digit of the result at one place, with the carry or borrow `cin` coming in and CY going
out. -/
def PlaceExact (program : List Instr) (s : State) (x y : Byte) (cin : Bool) : Prop :=
  ∃ t, execAll program s = some t ∧ valid (t.reg .a) ∧
    (digit (t.reg .a) : ℤ) + sign * (base * t.flags.cy.toNat) = digit x + sign * (digit y + cin.toNat)

/-- The run gives the bytes of the result of two whole numbers, with `cin` coming in and CY going out at the end. -/
def NumberExact (run : Option (List Byte × State)) (xys : List (Byte × Byte)) (cin : Bool) : Prop :=
  ∃ rs t, run = some (rs, t) ∧ rs.length = xys.length ∧ (∀ r ∈ rs, valid r) ∧
    (valueOf base digit rs : ℤ) + sign * (base ^ xys.length * t.flags.cy.toNat) =
      valueOf base digit (xys.map Prod.fst) + sign * (valueOf base digit (xys.map Prod.snd) + cin.toNat)

variable {sign base digit valid}

/-- One place, then the places above it with the carry it leaves. -/
theorem numberExact_cons {first next : Byte → Instr} {after : List Instr} {x y : Byte} {rest : List (Byte × Byte)}
    {s : State} {cin : Bool} (hplace : PlaceExact sign base digit valid (byteProgram first after x y) s x y cin)
    (hrest : ∀ t, NumberExact sign base digit valid (byBytes next next after rest t) rest t.flags.cy) :
    NumberExact sign base digit valid (byBytes first next after ((x, y) :: rest) s) ((x, y) :: rest) cin := by
  obtain ⟨t, ht, hvalid, hdigit⟩ := hplace
  obtain ⟨rs, u, hu, hlen, hvalids, hvalue⟩ := hrest t
  refine ⟨t.reg .a :: rs, u, by rw [byBytes, ht]; simp only [hu], by simp [hlen], ?_, ?_⟩
  · simpa using ⟨hvalid, hvalids⟩
  · simp only [valueOf, List.map_cons, List.length_cons]
    push_cast
    linear_combination hdigit + base * hvalue

/-- The places above the first, each with the carry of the one below. -/
theorem numberExact_next {next : Byte → Instr} {after : List Instr}
    (hplace : ∀ s x y, valid x → valid y →
      PlaceExact sign base digit valid (byteProgram next after x y) s x y s.flags.cy)
    {xys : List (Byte × Byte)} (hvalid : ∀ xy ∈ xys, valid xy.1 ∧ valid xy.2) (s : State) :
    NumberExact sign base digit valid (byBytes next next after xys s) xys s.flags.cy := by
  induction xys generalizing s with
  | nil => exact ⟨[], s, rfl, rfl, nofun, by simp [valueOf]⟩
  | cons xy rest ih =>
    obtain ⟨hx, hy⟩ := hvalid xy (by simp)
    exact numberExact_cons (hplace s _ _ hx hy) (ih fun p hp => hvalid p (by simp [hp]))

/-- A whole number: the first place with nothing coming in, then the places above it. -/
theorem numberExact {first next : Byte → Instr} {after : List Instr}
    (hfirst : ∀ s x y, valid x → valid y →
      PlaceExact sign base digit valid (byteProgram first after x y) s x y false)
    (hnext : ∀ s x y, valid x → valid y →
      PlaceExact sign base digit valid (byteProgram next after x y) s x y s.flags.cy)
    {xys : List (Byte × Byte)} (hne : xys ≠ []) (hvalid : ∀ xy ∈ xys, valid xy.1 ∧ valid xy.2) (s : State) :
    NumberExact sign base digit valid (byBytes first next after xys s) xys false := by
  cases xys with
  | nil => exact absurd rfl hne
  | cons xy rest =>
    obtain ⟨hx, hy⟩ := hvalid xy (by simp)
    exact numberExact_cons (hfirst s _ _ hx hy) (numberExact_next hnext fun p hp => hvalid p (by simp [hp]))

end Exact

/-! ### One place -/

/-- The program for one pair: A is loaded, and the operation takes its result into A and the flags. -/
theorem execAll_byteProgram {op : Byte → Instr} {x y : Byte} {s : State} {r : AluResult}
    (h : exec (op y) (s.setReg .a x) = .next ((s.setReg .a x).setAcc r)) (after : List Instr) :
    execAll (byteProgram op after x y) s = execAll after ((s.setReg .a x).setAcc r) := by
  show execAll (.mviR .a x :: op y :: after) s = _
  rw [execAll_cons (DataTransfer.exec_mviR .a x s) _, execAll_cons h _]

theorem add8_exact (a x : Byte) (cin : Bool) :
    (add8 a x cin).val.toNat + 256 * (add8 a x cin).flags.cy.toNat = a.toNat + x.toNat + cin.toNat := by
  obtain ⟨hsum, _, hcy, _⟩ := Arithmetic.isSum_add8 a x cin
  have ha := a.isLt
  have hx := x.isLt
  have hcin := Bool.toNat_le cin
  cases h : (add8 a x cin).flags.cy <;> simp [h] at hcy ⊢ <;> omega

theorem sub8_exact (a x : Byte) (bin : Bool) :
    (sub8 a x bin).val.toNat + x.toNat + bin.toNat = a.toNat + 256 * (sub8 a x bin).flags.cy.toNat := by
  obtain ⟨hdiff, _, hcy, _⟩ := Arithmetic.isDifference_sub8 a x bin
  have ha := a.isLt
  have hx := x.isLt
  have hbin := Bool.toNat_le bin
  cases h : (sub8 a x bin).flags.cy <;> simp [h] at hcy ⊢ <;> omega

theorem placeExact_add {op : Byte → Instr} {x y : Byte} {s : State} {cin : Bool}
    (h : exec (op y) (s.setReg .a x) = .next ((s.setReg .a x).setAcc (add8 x y cin))) :
    PlaceExact 1 256 BitVec.toNat (fun _ => True) (byteProgram op [] x y) s x y cin := by
  refine ⟨_, execAll_byteProgram h [], trivial, ?_⟩
  have hexact := add8_exact x y cin
  rw [Decimal.reg_a_setAcc, State.setAcc_flags]
  omega

theorem placeExact_sub {op : Byte → Instr} {x y : Byte} {s : State} {bin : Bool}
    (h : exec (op y) (s.setReg .a x) = .next ((s.setReg .a x).setAcc (sub8 x y bin))) :
    PlaceExact (-1) 256 BitVec.toNat (fun _ => True) (byteProgram op [] x y) s x y bin := by
  refine ⟨_, execAll_byteProgram h [], trivial, ?_⟩
  have hexact := sub8_exact x y bin
  rw [Decimal.reg_a_setAcc, State.setAcc_flags]
  omega

theorem placeExact_decimal {op : Byte → Instr} {x y : Byte} {s : State} {cin : Bool} (hx : IsDecimal x)
    (hy : IsDecimal y) (h : exec (op y) (s.setReg .a x) = .next ((s.setReg .a x).setAcc (add8 x y cin))) :
    PlaceExact 1 100 decimalOf IsDecimal (byteProgram op [.daa] x y) s x y cin := by
  obtain ⟨hdecimal, hexact⟩ := Decimal.daa8_add8_decimal hx hy (cin := cin) rfl
  refine ⟨_, (execAll_byteProgram h [.daa]).trans (execAll_cons (Decimal.exec_daa _) []), ?_, ?_⟩ <;>
    rw [Decimal.reg_a_setAcc, Decimal.reg_a_setAcc, State.setAcc_flags]
  · exact hdecimal
  · rw [State.setAcc_flags]
    omega

/-! ### The obligations -/

/-- Settles O15: each place by `placeExact_add`. -/
theorem chainedAdditionIsExact : Obligations.ChainedAdditionIsExact := by
  intro xys s hne
  obtain ⟨rs, t, hrun, hlen, _, hvalue⟩ :=
    numberExact (first := .adi) (next := .aci) (after := []) (fun s x y _ _ => placeExact_add rfl)
      (fun s x y _ _ => placeExact_add rfl) hne (fun _ _ => ⟨trivial, trivial⟩) s
  refine ⟨rs, t, hrun, hlen, ?_⟩
  rw [Bool.toNat_false, Nat.cast_zero] at hvalue
  zify
  linear_combination hvalue

/-- Settles O16: each place by `placeExact_sub`. -/
theorem chainedSubtractionIsExact : Obligations.ChainedSubtractionIsExact := by
  intro xys s hne
  obtain ⟨rs, t, hrun, hlen, _, hvalue⟩ :=
    numberExact (first := .sui) (next := .sbi) (after := []) (fun s x y _ _ => placeExact_sub rfl)
      (fun s x y _ _ => placeExact_sub rfl) hne (fun _ _ => ⟨trivial, trivial⟩) s
  refine ⟨rs, t, hrun, hlen, ?_⟩
  rw [Bool.toNat_false, Nat.cast_zero] at hvalue
  zify
  linear_combination hvalue

/-- Settles O17: each place by `placeExact_decimal`. -/
theorem chainedDecimalAdditionIsExact : Obligations.ChainedDecimalAdditionIsExact := by
  intro xys s hne hdecimal
  obtain ⟨rs, t, hrun, hlen, hvalid, hvalue⟩ :=
    numberExact (first := .adi) (next := .aci) (after := [.daa]) (fun s x y hx hy => placeExact_decimal hx hy rfl)
      (fun s x y hx hy => placeExact_decimal hx hy rfl) hne hdecimal s
  refine ⟨rs, t, hrun, hlen, hvalid, ?_⟩
  rw [Bool.toNat_false, Nat.cast_zero] at hvalue
  zify
  linear_combination hvalue

end Sys2Proof.Chains
end

section
/-! PROOFS. Logic (42_logical.md): AND, the comparisons, and rotates made many times over. -/

namespace Sys2Proof.Logic

open Sys2Proof.Machine Sys2Proof.Claims

/-! ### AND and compare (42_logical.md R171, R182) -/

theorem isBitwise_and8 (rule : AndAcRule) (a x : Byte) :
    IsBitwise and a x (and8 rule a x).val (and8 rule a x).flags :=
  isBitwise_ofResult (andAuxCarry rule a x) fun _ => BitVec.getLsbD_and

theorem exec_anaR (r : Reg8) (s : State) :
    exec (.anaR r) s = .next (s.setAcc (and8 s.params.andAc (s.reg .a) (s.reg r))) := rfl

theorem exec_anaM (s : State) : exec .anaM s = .next (s.setAcc (and8 s.params.andAc (s.reg .a) s.readM)) := rfl

theorem exec_ani (d8 : Byte) (s : State) :
    exec (.ani d8) s = .next (s.setAcc (and8 s.params.andAc (s.reg .a) d8)) := rfl

theorem exec_cmpR (r : Reg8) (s : State) :
    exec (.cmpR r) s = .next (s.setFlags (sub8 (s.reg .a) (s.reg r) false).flags) := rfl

theorem exec_cmpM (s : State) : exec .cmpM s = .next (s.setFlags (sub8 (s.reg .a) s.readM false).flags) := rfl

theorem exec_cpi (d8 : Byte) (s : State) :
    exec (.cpi d8) s = .next (s.setFlags (sub8 (s.reg .a) d8 false).flags) := rfl

/-- An instruction whose next state takes a result of `and8` gives A and the flags the AND, with AC by the rule. -/
theorem accumulatorGets_and {i : Instr} {s : State} {rule : AndAcRule} {a x : Byte}
    (h : exec i s = .next (s.setAcc (and8 rule a x))) :
    AccumulatorGets i s fun r f =>
      IsBitwise and a x r f ∧ (rule = .zero → f.ac = false) ∧
        (rule = .orBit3 → f.ac = (a.getLsbD 3 || x.getLsbD 3)) :=
  accumulatorGets_of_exec_setAcc h ⟨isBitwise_and8 rule a x, fun hr => by rw [hr]; rfl, fun hr => by rw [hr]; rfl⟩

/-- An instruction whose next state takes the flags of `sub8` compares A with the operand. -/
theorem comparesWith_of_exec_setFlags {i : Instr} {s : State} {x : Byte}
    (h : exec i s = .next (s.setFlags (sub8 (s.reg .a) x false).flags)) : ComparesWith i s x :=
  ⟨_, _, h, Arithmetic.isDifference_sub8 _ _ _, rfl, rfl, frame_setFlags s _⟩

/-- What the flags of a difference without borrow say of its operands. -/
theorem isDifference_iff {a x r : Byte} {f : Flags} (h : IsDifference a x false r f) :
    (f.z = true ↔ a = x) ∧ (f.cy = true ↔ a.toNat < x.toNat) := by
  obtain ⟨hdiff, ⟨hz, _, _⟩, hcy, _⟩ := h
  have ha := a.isLt
  have hx := x.isLt
  rw [Bool.toNat_false] at hdiff hcy
  rw [hz, hcy, BitVec.toNat_eq]
  constructor <;> omega

theorem words1_anaR (r : Reg8) : Words1 (.anaR r) (0xA0 + regCode r) :=
  words1_quadrant2 (aaa := 0b100) (fun _ => rfl) (fun _ => rfl) rfl r

theorem words1_cmpR (r : Reg8) : Words1 (.cmpR r) (0xB8 + regCode r) :=
  words1_quadrant2 (aaa := 0b111) (fun _ => rfl) (fun _ => rfl) rfl r

/-- Settles O18: each of the three forms takes `and8` of A and its operand, `accumulatorGets_and`. -/
theorem andsGiveResultAndFlags : Obligations.AndsGiveResultAndFlags := by
  refine ⟨fun r => ⟨words1_anaR r, fun _ _ => rfl, fun s => accumulatorGets_and (exec_anaR r s)⟩,
    ⟨words1_of_form rfl rfl, fun _ _ => rfl, fun s => ?anaM⟩,
    ⟨words2_of_form rfl fun _ => rfl, fun d8 => ⟨fun _ _ => rfl, fun s => accumulatorGets_and (exec_ani d8 s)⟩⟩⟩
  case anaM =>
    rw [cellM_eq_readM]
    exact accumulatorGets_and (exec_anaM s)

/-- Settles O20: each of the three forms takes the flags of `sub8`; what they say is `isDifference_iff`. -/
theorem comparesSetFlagsOnly : Obligations.ComparesSetFlagsOnly := by
  refine ⟨fun r => ⟨words1_cmpR r, fun _ _ => rfl, fun s => comparesWith_of_exec_setFlags (exec_cmpR r s)⟩,
    ⟨words1_of_form rfl rfl, fun _ _ => rfl, fun s => ?cmpM⟩,
    ⟨words2_of_form rfl fun _ => rfl, fun d8 => ⟨fun _ _ => rfl, fun s =>
      comparesWith_of_exec_setFlags (exec_cpi d8 s)⟩⟩,
    fun i s t x hcompare ht => ?flags⟩
  case cmpM =>
    rw [cellM_eq_readM]
    exact comparesWith_of_exec_setFlags (exec_cmpM s)
  case flags =>
    obtain ⟨t', r, ht', hdiff, _⟩ := hcompare
    obtain rfl := Host.Outcome.next.inj (ht'.symm.trans ht)
    exact isDifference_iff hdiff

/-! ### Rotates made many times over (42_logical.md R187 to R190) -/

/-- RAL on A and CY. -/
def ral (x : Byte × Bool) : Byte × Bool := rotLeftCarry x.1 x.2

/-- RAR on A and CY. -/
def rar (x : Byte × Bool) : Byte × Bool := rotRightCarry x.1 x.2

/-- RLC on A and CY. -/
def rlc (x : Byte × Bool) : Byte × Bool := rotLeft x.1

/-- RRC on A and CY. -/
def rrc (x : Byte × Bool) : Byte × Bool := rotRight x.1

/-- A and CY. -/
def carryAndA (s : State) : Byte × Bool := (s.reg .a, s.flags.cy)

theorem setRotated_carryAndA (s : State) : s.setRotated (carryAndA s) = s := by
  simp [State.setRotated, State.setReg, State.setFlags, carryAndA, Regs.set, State.reg, Regs.get]

theorem carryAndA_setRotated (s : State) (x : Byte × Bool) : carryAndA (s.setRotated x) = x := by
  rw [carryAndA, State.reg_setRotated, if_pos rfl]
  rfl

theorem setRotated_setRotated (s : State) (x y : Byte × Bool) : (s.setRotated x).setRotated y = s.setRotated y := rfl

/-- A rotate run many times is its effect on A and CY iterated. -/
theorem execAll_replicate {i : Instr} {f : Byte × Bool → Byte × Bool}
    (h : ∀ s, exec i s = .next (s.setRotated (f (carryAndA s)))) (n : Nat) (s : State) :
    execAll (List.replicate n i) s = some (s.setRotated (f^[n] (carryAndA s))) := by
  induction n generalizing s with
  | zero => exact congrArg some (setRotated_carryAndA s).symm
  | succ n ih =>
    rw [List.replicate_succ, execAll_cons (h s) _, ih, carryAndA_setRotated, setRotated_setRotated,
      Function.iterate_succ_apply]

/-- Two rotates in a row are their effects on A and CY one after the other. -/
theorem execAll_two {i j : Instr} {f g : Byte × Bool → Byte × Bool}
    (hi : ∀ s, exec i s = .next (s.setRotated (f (carryAndA s))))
    (hj : ∀ s, exec j s = .next (s.setRotated (g (carryAndA s)))) (s : State) :
    execAll [i, j] s = some (s.setRotated (g (f (carryAndA s)))) := by
  rw [execAll_cons (hi s) _, execAll_cons (hj _) _, execAll_nil, carryAndA_setRotated, setRotated_setRotated]

/-- RAR undoes RAL on A and CY. -/
theorem leftInverse_rar_ral : Function.LeftInverse rar ral := by
  rintro ⟨a, cy⟩
  revert a cy
  decide

/-- Nine places make the full circle of A and CY. -/
theorem ral_iterate_nine (x : Byte × Bool) : ral^[9] x = x := by
  obtain ⟨a, cy⟩ := x
  revert a cy
  decide

theorem rar_iterate_nine (x : Byte × Bool) : rar^[9] x = x := by
  have h := leftInverse_rar_ral.iterate 9 x
  rwa [ral_iterate_nine] at h

/-- The byte RLC leaves, from the byte it finds. -/
def rlcByte (a : Byte) : Byte := (rotLeft a).1

/-- The byte RRC leaves, from the byte it finds. -/
def rrcByte (a : Byte) : Byte := (rotRight a).1

/-- RRC undoes RLC on A. -/
theorem leftInverse_rrcByte_rlcByte : Function.LeftInverse rrcByte rlcByte := by
  intro a
  revert a
  decide

/-- Eight places make the full circle of A. -/
theorem rlcByte_iterate_eight (a : Byte) : rlcByte^[8] a = a := by
  revert a
  decide

theorem rrcByte_iterate_eight (a : Byte) : rrcByte^[8] a = a := by
  have h := leftInverse_rrcByte_rlcByte.iterate 8 a
  rwa [rlcByte_iterate_eight] at h

theorem rlc_iterate_fst (n : Nat) (x : Byte × Bool) : (rlc^[n] x).1 = rlcByte^[n] x.1 :=
  Function.Semiconj.iterate_right (f := Prod.fst) (ga := rlc) (gb := rlcByte) (fun _ => rfl) n x

theorem rrc_iterate_fst (n : Nat) (x : Byte × Bool) : (rrc^[n] x).1 = rrcByte^[n] x.1 :=
  Function.Semiconj.iterate_right (f := Prod.fst) (ga := rrc) (gb := rrcByte) (fun _ => rfl) n x

theorem regs_setRotated_of_fst {s : State} {x : Byte × Bool} (h : x.1 = s.reg .a) :
    (s.setRotated x).regs = s.regs := by
  rw [State.setRotated_regs, h]
  rfl

/-- Settles O23: a run of rotates is their effect on A and CY iterated, `execAll_replicate`; to the left the circle
closes after eight or nine places, and each rotate to the right undoes one to the left. -/
theorem repeatedRotatesRestore : Obligations.RepeatedRotatesRestore := by
  refine ⟨fun s => ⟨_, execAll_replicate (f := rlc) (fun _ => rfl) 8 s, regs_setRotated_of_fst ?rlc⟩,
    fun s => ⟨_, execAll_replicate (f := rrc) (fun _ => rfl) 8 s, regs_setRotated_of_fst ?rrc⟩, fun s => ?ral,
    fun s => ?rar, fun s => ?ralThenRar, fun s => ⟨_, execAll_two (f := rlc) (g := rrc) (fun _ => rfl) (fun _ => rfl) s,
      regs_setRotated_of_fst (leftInverse_rrcByte_rlcByte (s.reg .a))⟩⟩
  case rlc => rw [rlc_iterate_fst, rlcByte_iterate_eight, carryAndA]
  case rrc => rw [rrc_iterate_fst, rrcByte_iterate_eight, carryAndA]
  case ral => rw [execAll_replicate (f := ral) (fun _ => rfl), ral_iterate_nine, setRotated_carryAndA]
  case rar => rw [execAll_replicate (f := rar) (fun _ => rfl), rar_iterate_nine, setRotated_carryAndA]
  case ralThenRar =>
    rw [execAll_two (f := ral) (g := rar) (fun _ => rfl) (fun _ => rfl), leftInverse_rar_ral, setRotated_carryAndA]

end Sys2Proof.Logic
end
